-- ==== Sys2Proof/Word.lean ====
section
/-! DEFINITION. Word types of the Intel 386 SX and the bit-level names the other files share (rules R6, R9). -/

namespace Sys2Proof

/-- A byte: 8 bits (rule R6). -/
abbrev Byte := BitVec 8

/-- A word: 16 bits (rule R6). -/
abbrev Half := BitVec 16

/-- A doubleword: 32 bits (rule R6). Operand values of every width are carried zero-extended in one. -/
abbrev Word := BitVec 32

end Sys2Proof
end

