-- ==== Sys2Proof/Machine/Descriptor.lean ====
section
/-! DEFINITION. Segment descriptors and the registers that locate their tables (rules R33, R34, R80). -/

namespace Sys2Proof.Machine

/-- The kind of a segment descriptor with the properties of that kind (rule R80). -/
inductive SegKind where
  | data (writable expandDown : Bool)
  | code (readable conforming : Bool)
  /-- A task state segment, LDT or gate. -/
  | system
  deriving DecidableEq, Repr

/-- Access rights: the `.ar` part of a segment register and of a descriptor (rules R31, R80). `big` is the D bit of a
code segment and the B bit of a data segment. -/
structure Rights where
  kind : SegKind
  dpl : BitVec 2
  present : Bool
  big : Bool
  deriving DecidableEq, Repr

/-- The abstract descriptor record (rule R80); `limit` is byte-granular. -/
structure Descriptor where
  base : Word
  limit : Word
  rights : Rights
  deriving DecidableEq, Repr

/-- A 48-bit BASE/LIMIT register: GDTR, IDTR (rule R33). -/
structure TableReg where
  limit : Half
  base : Word
  deriving DecidableEq, Repr

/-- A selector register with its cached base and limit: LDTR, TASKR (rule R34). -/
structure SystemReg where
  sel : Half
  base : Word
  limit : Word
  deriving DecidableEq, Repr

end Sys2Proof.Machine
end

