-- ==== Sys2Proof/Machine/Memory.lean ====
section
/-! DEFINITION. Physical memory: a list of address and byte pairs in one canonical form, and its two operations
(rules R71, R79). -/

namespace Sys2Proof.Machine

/-- Memory as the listed bytes of a total map from physical addresses to bytes (rule R71). -/
abbrev Memory := List Host.Cell

/-- What an address that is not listed reads as. DESIGN CHOICE (log entry 2): the spec gives memory no contents after
reset. Unsafe. -/
def unlistedByte : Byte := 0

/-- The canonical form: addresses strictly rising, and no entry equal to what an unlisted address reads as. -/
abbrev Memory.wf (m : Memory) : Prop :=
  List.Pairwise (fun x y => x.1 < y.1) m ∧ ∀ c ∈ m, c.2 ≠ unlistedByte

/-- The byte at an address. -/
def Memory.read : Memory → Nat → Byte
  | [], _ => unlistedByte
  | (x, v) :: m, a => if x = a then v else Memory.read m a

/-- The listed cell of a byte, in front of the cells of higher addresses; none for the byte an unlisted address
reads as. -/
def consCell (a : Nat) (b : Byte) (m : Memory) : Memory :=
  if b = unlistedByte then m else (a, b) :: m

/-- The memory with byte `b` at address `a`, in canonical form. -/
def Memory.write : Memory → Nat → Byte → Memory
  | [], a, b => consCell a b []
  | (x, v) :: m, a, b =>
    if a < x then consCell a b ((x, v) :: m)
    else if x = a then consCell a b m
    else (x, v) :: Memory.write m a b

end Sys2Proof.Machine
end

