-- ==== Sys2Proof/Config.lean ====
section
/-! DEFINITION. What the spec leaves to the implementation: the OPEN parameters of rule R5 as a plain record that the
state carries unchanged, the host's functions that two of them can name, and the one free value, from which every draw of
rule R12 comes. The parameter `ResetState` and the interrupt inputs stand with the state. -/

namespace Sys2Proof

/-- What a fetch of bytes written since the last control transfer does (rule R93). -/
inductive SmcPolicy where
  /-- The model refuses the fetch (the default). -/
  | refuse
  /-- Every fetch reads current memory. -/
  | coherent
  deriving DecidableEq, Repr

/-- What the host backs a range of physical addresses with (rule R79). -/
inductive RegionKind where
  /-- Memory that is read and written. -/
  | ram
  /-- Memory that is read, and that no store changes. -/
  | rom
  /-- The window of a device, whose answers are the host's. -/
  | device
  deriving DecidableEq, Repr

/-- A range of physical addresses that the host backs (rule R79). -/
structure MemRegion where
  base : Nat
  size : Nat
  kind : RegionKind
  deriving DecidableEq, Repr

/-- The host parameter `MemoryMap` (rules R5, R79). -/
inductive MemoryMap where
  /-- Every physical address is RAM (the default). -/
  | allRam
  /-- The RAM and ROM extents and the device windows: only the listed regions are backed, and an address in more than one
  of them belongs to the first listed (DESIGN CHOICE, log entry 31). -/
  | regions (rs : List MemRegion)
  deriving DecidableEq, Repr

/-- The parameter `IOPermission(port, n)` (rules R5, R97). -/
inductive IoPermission where
  /-- The bit map in the current TSS, as rule R97 defines it (the default). -/
  | tssMap
  /-- The host's predicate, `Config.hostIoPermission`. -/
  | host
  deriving DecidableEq, Repr

/-- The parameter `ReadDescriptor(selector)` (rules R5, R80). -/
inductive DescriptorReader where
  /-- The look-up and the eight-byte layout of rule R81 (the default). -/
  | standard
  /-- The host's function, `Config.hostDescriptor`. -/
  | host
  deriving DecidableEq, Repr

/-- The OPEN parameters of rule R5, with the defaults that rule gives. -/
structure Config where
  /-- `PHYS_ADDR_BITS`. -/
  physAddrBits : Nat := 24
  /-- `MAX_INSTRUCTION_LENGTH`. -/
  maxInstructionLength : Nat := 15
  /-- `HAS_387`: whether a coprocessor drives BUSY# and ERROR#. -/
  has387 : Bool := false
  /-- `SMC_POLICY`. -/
  smcPolicy : SmcPolicy := .refuse
  /-- `RF_BIT`. -/
  rfBit : Nat := 16
  /-- `VM_BIT`. -/
  vmBit : Nat := 17
  /-- `V86_STI_FAULTS`. -/
  v86StiFaults : Bool := false
  /-- `ACCEPT_GK_BRANCHES`. -/
  acceptGkBranches : Bool := true
  /-- `MemoryMap`. -/
  memoryMap : MemoryMap := .allRam
  /-- `IOPermission`. -/
  ioPermission : IoPermission := .tssMap
  /-- `ReadDescriptor`. -/
  descriptorReader : DescriptorReader := .standard
  deriving DecidableEq, Repr

/-- The values the spec leaves open: draw number `n` of a run (rule R12). It has no body, so nothing can be proved of
a value of it. -/
opaque Config.freeValue : Nat → BitVec 32

/-- The host's `IOPermission`: from TASKR and memory, whether `n` ports from `port` on may be accessed (rule R97). It has
no body: whatever holds of it holds for every such predicate. -/
opaque Config.hostIoPermission : Machine.SystemReg → Machine.Memory → (port n : Nat) → Bool

/-- The host's `ReadDescriptor`: from GDTR, LDTR and memory, the descriptor of a selector, `none` for `OutOfTable`
(rule R80). It has no body: whatever holds of it holds for every such function. -/
opaque Config.hostDescriptor :
  Machine.TableReg → Machine.SystemReg → Machine.Memory → (sel : Half) → Option Machine.Descriptor

end Sys2Proof
end

