-- ==== Sys2Proof/Syntax.lean ====
section
/-! DEFINITION. The instruction syntax: operands as the addressing tables name them (rules R20, R31, R129 to R133)
and the instructions, one constructor per row of spec/opcode_table.json, but that the two rows of one Jcc (short and
near displacement) and the three rows of one shift or rotate (count 1, CL, immediate) share a constructor whose operand
says which row it is. The constructors with operands come first, each group in the table's order: Lean's runtime bounds
the number of a constructor that has fields. Prefix bytes have rows, hence constructors, of their own (rule R150 (c));
the attributes they set are held by the machine while the instruction they precede is executed (rule R8). -/

namespace Sys2Proof

/-- The two values of the operand-size and address-size attributes (rule R8). -/
inductive Size where
  | s16
  | s32
  deriving DecidableEq, Repr

/-- The eight general register numbers of rule R20, by their 32-bit names. At 16 bits number `n` names the low half;
at 8 bits the numbers name AL, CL, DL, BL, AH, CH, DH, BH in this order (rule R21). -/
inductive Reg where
  | eax | ecx | edx | ebx | esp | ebp | esi | edi
  deriving DecidableEq, Repr

/-- The six segment registers, in the order of the sreg3 field (rules R31, R126). -/
inductive SegReg where
  | es | cs | ss | ds | fs | gs
  deriving DecidableEq, Repr

/-- The control registers that MOV reaches (rule R129). -/
inductive CReg where
  | cr0 | cr2 | cr3
  deriving DecidableEq, Repr

/-- The debug registers that MOV reaches (rules R39, R129). -/
inductive DReg where
  | dr0 | dr1 | dr2 | dr3 | dr6 | dr7
  deriving DecidableEq, Repr

/-- The test registers that MOV reaches (rules R40, R129). -/
inductive TReg where
  | tr6 | tr7
  deriving DecidableEq, Repr

/-- The scale factor of the s-i-b byte (rule R132). -/
inductive Scale where
  | x1 | x2 | x4 | x8
  deriving DecidableEq, Repr

/-- The eight register bases of 16-bit addressing, in r/m order (rule R130). -/
inductive Base16 where
  | bxsi | bxdi | bpsi | bpdi | si | di | bp | bx
  deriving DecidableEq, Repr

/-- The displacement of a 16-bit addressing form: mod = 00, 01, 10 (rule R130). -/
inductive Disp16 where
  | none
  | d8 (d : BitVec 8)
  | d16 (d : BitVec 16)
  deriving DecidableEq, Repr

/-- The displacement of a 32-bit addressing form: mod = 00, 01, 10 (rules R131, R132). -/
inductive Disp32 where
  | none
  | d8 (d : BitVec 8)
  | d32 (d : BitVec 32)
  deriving DecidableEq, Repr

/-- A memory operand as the mod r/m and s-i-b bytes encode it (rules R130 to R133). -/
inductive Mem where
  /-- mod = 00, r/m = 110 with 16-bit addressing: a direct 16-bit offset. -/
  | direct16 (off : BitVec 16)
  /-- Register base with 16-bit addressing. -/
  | base16 (b : Base16) (d : Disp16)
  /-- mod = 00, r/m = 101 with 32-bit addressing: a direct 32-bit offset. -/
  | direct32 (off : BitVec 32)
  /-- Register base with 32-bit addressing, no s-i-b byte. -/
  | base32 (b : Reg) (d : Disp32)
  /-- s-i-b byte with a base register. -/
  | sib (sc : Scale) (index : Option Reg) (b : Reg) (d : Disp32)
  /-- s-i-b byte with mod = 00 and base = 101: a 32-bit offset and the scaled index. -/
  | sibNoBase (sc : Scale) (index : Option Reg) (off : BitVec 32)
  deriving DecidableEq, Repr

/-- An operand of code E: a general register (mod = 11) or a memory operand (rules R134, R143). -/
inductive RM where
  | reg (r : Reg)
  | mem (m : Mem)
  deriving DecidableEq, Repr

/-- The displacement of a conditional jump: the row with `rel8` or the row with `rel16/32` (rule R138). -/
inductive Rel where
  | short (rel : BitVec 8)
  | near (rel : BitVec 32)
  deriving DecidableEq, Repr

/-- The count operand of a shift or rotate: the rows with count 1, with CL and with an immediate byte (rule R360). -/
inductive Count where
  | one
  | cl
  | imm8 (n : BitVec 8)
  deriving DecidableEq, Repr

/-- The instructions, from the rows of spec/opcode_table.json. `rm` is the mod r/m operand, `r` a general
register (the reg field, or the low opcode bits), `imm` an immediate field as encoded (an immediate of `OpSize` bits
is held zero-extended), `off` a direct or far offset, `rel` a relative displacement as encoded, `n` a shift count. -/
inductive Instr where
  /-- ADD r/m8,r8: match 00 (rule R486). -/
  | addRm8R8 (rm : RM) (r : Reg)
  /-- ADD r/m16,r16 | r/m32,r32: match 01 (rule R486). -/
  | addRmvRv (rm : RM) (r : Reg)
  /-- ADD r8,r/m8: match 02 (rule R486). -/
  | addR8Rm8 (rm : RM) (r : Reg)
  /-- ADD r16,r/m16 | r32,r/m32: match 03 (rule R486). -/
  | addRvRmv (rm : RM) (r : Reg)
  /-- ADD AL,imm8: match 04 (rule R486). -/
  | addAlImm8 (imm : BitVec 8)
  /-- ADD AX,imm16 | EAX,imm32: match 05 (rule R486). -/
  | addAxImmv (imm : BitVec 32)
  /-- ADD r/m8,imm8: match 80 00 (rule R486). -/
  | addRm8Imm8 (rm : RM) (imm : BitVec 8)
  /-- ADD r/m16,imm16 | r/m32,imm32: match 81 00 (rule R486). -/
  | addRmvImmv (rm : RM) (imm : BitVec 32)
  /-- ADD r/m16,imm8 | r/m32,imm8: match 83 00 (rule R486). -/
  | addRmvImm8 (rm : RM) (imm : BitVec 8)
  /-- OR r/m8,r8: match 08 (rule R265). -/
  | orRm8R8 (rm : RM) (r : Reg)
  /-- OR r/m16,r16 | r/m32,r32: match 09 (rule R265). -/
  | orRmvRv (rm : RM) (r : Reg)
  /-- OR r8,r/m8: match 0A (rule R265). -/
  | orR8Rm8 (rm : RM) (r : Reg)
  /-- OR r16,r/m16 | r32,r/m32: match 0B (rule R265). -/
  | orRvRmv (rm : RM) (r : Reg)
  /-- OR AL,imm8: match 0C (rule R265). -/
  | orAlImm8 (imm : BitVec 8)
  /-- OR AX,imm16 | EAX,imm32: match 0D (rule R265). -/
  | orAxImmv (imm : BitVec 32)
  /-- OR r/m8,imm8: match 80 08 (rule R265). -/
  | orRm8Imm8 (rm : RM) (imm : BitVec 8)
  /-- OR r/m16,imm16 | r/m32,imm32: match 81 08 (rule R265). -/
  | orRmvImmv (rm : RM) (imm : BitVec 32)
  /-- OR r/m16,imm8 | r/m32,imm8: match 83 08 (rule R265). -/
  | orRmvImm8 (rm : RM) (imm : BitVec 8)
  /-- ADC r/m8,r8: match 10 (rule R485). -/
  | adcRm8R8 (rm : RM) (r : Reg)
  /-- ADC r/m16,r16 | r/m32,r32: match 11 (rule R485). -/
  | adcRmvRv (rm : RM) (r : Reg)
  /-- ADC r8,r/m8: match 12 (rule R485). -/
  | adcR8Rm8 (rm : RM) (r : Reg)
  /-- ADC r16,r/m16 | r32,r/m32: match 13 (rule R485). -/
  | adcRvRmv (rm : RM) (r : Reg)
  /-- ADC AL,imm8: match 14 (rule R485). -/
  | adcAlImm8 (imm : BitVec 8)
  /-- ADC AX,imm16 | EAX,imm32: match 15 (rule R485). -/
  | adcAxImmv (imm : BitVec 32)
  /-- ADC r/m8,imm8: match 80 10 (rule R485). -/
  | adcRm8Imm8 (rm : RM) (imm : BitVec 8)
  /-- ADC r/m16,imm16 | r/m32,imm32: match 81 10 (rule R485). -/
  | adcRmvImmv (rm : RM) (imm : BitVec 32)
  /-- ADC r/m16,imm8 | r/m32,imm8: match 83 10 (rule R485). -/
  | adcRmvImm8 (rm : RM) (imm : BitVec 8)
  /-- SBB r/m8,r8: match 18 (rule R266). -/
  | sbbRm8R8 (rm : RM) (r : Reg)
  /-- SBB r/m16,r16 | r/m32,r32: match 19 (rule R266). -/
  | sbbRmvRv (rm : RM) (r : Reg)
  /-- SBB r8,r/m8: match 1A (rule R266). -/
  | sbbR8Rm8 (rm : RM) (r : Reg)
  /-- SBB r16,r/m16 | r32,r/m32: match 1B (rule R266). -/
  | sbbRvRmv (rm : RM) (r : Reg)
  /-- SBB AL,imm8: match 1C (rule R266). -/
  | sbbAlImm8 (imm : BitVec 8)
  /-- SBB AX,imm16 | EAX,imm32: match 1D (rule R266). -/
  | sbbAxImmv (imm : BitVec 32)
  /-- SBB r/m8,imm8: match 80 18 (rule R266). -/
  | sbbRm8Imm8 (rm : RM) (imm : BitVec 8)
  /-- SBB r/m16,imm16 | r/m32,imm32: match 81 18 (rule R266). -/
  | sbbRmvImmv (rm : RM) (imm : BitVec 32)
  /-- SBB r/m16,imm8 | r/m32,imm8: match 83 18 (rule R266). -/
  | sbbRmvImm8 (rm : RM) (imm : BitVec 8)
  /-- AND r/m8,r8: match 20 (rule R487). -/
  | andRm8R8 (rm : RM) (r : Reg)
  /-- AND r/m16,r16 | r/m32,r32: match 21 (rule R487). -/
  | andRmvRv (rm : RM) (r : Reg)
  /-- AND r8,r/m8: match 22 (rule R487). -/
  | andR8Rm8 (rm : RM) (r : Reg)
  /-- AND r16,r/m16 | r32,r/m32: match 23 (rule R487). -/
  | andRvRmv (rm : RM) (r : Reg)
  /-- AND AL,imm8: match 24 (rule R487). -/
  | andAlImm8 (imm : BitVec 8)
  /-- AND AX,imm16 | EAX,imm32: match 25 (rule R487). -/
  | andAxImmv (imm : BitVec 32)
  /-- AND r/m8,imm8: match 80 20 (rule R487). -/
  | andRm8Imm8 (rm : RM) (imm : BitVec 8)
  /-- AND r/m16,imm16 | r/m32,imm32: match 81 20 (rule R487). -/
  | andRmvImmv (rm : RM) (imm : BitVec 32)
  /-- AND r/m16,imm8 | r/m32,imm8: match 83 20 (rule R487). -/
  | andRmvImm8 (rm : RM) (imm : BitVec 8)
  /-- SUB r/m8,r8: match 28 (rule R267). -/
  | subRm8R8 (rm : RM) (r : Reg)
  /-- SUB r/m16,r16 | r/m32,r32: match 29 (rule R267). -/
  | subRmvRv (rm : RM) (r : Reg)
  /-- SUB r8,r/m8: match 2A (rule R267). -/
  | subR8Rm8 (rm : RM) (r : Reg)
  /-- SUB r16,r/m16 | r32,r/m32: match 2B (rule R267). -/
  | subRvRmv (rm : RM) (r : Reg)
  /-- SUB AL,imm8: match 2C (rule R267). -/
  | subAlImm8 (imm : BitVec 8)
  /-- SUB AX,imm16 | EAX,imm32: match 2D (rule R267). -/
  | subAxImmv (imm : BitVec 32)
  /-- SUB r/m8,imm8: match 80 28 (rule R267). -/
  | subRm8Imm8 (rm : RM) (imm : BitVec 8)
  /-- SUB r/m16,imm16 | r/m32,imm32: match 81 28 (rule R267). -/
  | subRmvImmv (rm : RM) (imm : BitVec 32)
  /-- SUB r/m16,imm8 | r/m32,imm8: match 83 28 (rule R267). -/
  | subRmvImm8 (rm : RM) (imm : BitVec 8)
  /-- XOR r/m8,r8: match 30 (rule R268). -/
  | xorRm8R8 (rm : RM) (r : Reg)
  /-- XOR r/m16,r16 | r/m32,r32: match 31 (rule R268). -/
  | xorRmvRv (rm : RM) (r : Reg)
  /-- XOR r8,r/m8: match 32 (rule R268). -/
  | xorR8Rm8 (rm : RM) (r : Reg)
  /-- XOR r16,r/m16 | r32,r/m32: match 33 (rule R268). -/
  | xorRvRmv (rm : RM) (r : Reg)
  /-- XOR AL,imm8: match 34 (rule R268). -/
  | xorAlImm8 (imm : BitVec 8)
  /-- XOR AX,imm16 | EAX,imm32: match 35 (rule R268). -/
  | xorAxImmv (imm : BitVec 32)
  /-- XOR r/m8,imm8: match 80 30 (rule R268). -/
  | xorRm8Imm8 (rm : RM) (imm : BitVec 8)
  /-- XOR r/m16,imm16 | r/m32,imm32: match 81 30 (rule R268). -/
  | xorRmvImmv (rm : RM) (imm : BitVec 32)
  /-- XOR r/m16,imm8 | r/m32,imm8: match 83 30 (rule R268). -/
  | xorRmvImm8 (rm : RM) (imm : BitVec 8)
  /-- CMP r/m8,r8: match 38 (rule R503). -/
  | cmpRm8R8 (rm : RM) (r : Reg)
  /-- CMP r/m16,r16 | r/m32,r32: match 39 (rule R503). -/
  | cmpRmvRv (rm : RM) (r : Reg)
  /-- CMP r8,r/m8: match 3A (rule R503). -/
  | cmpR8Rm8 (rm : RM) (r : Reg)
  /-- CMP r16,r/m16 | r32,r/m32: match 3B (rule R503). -/
  | cmpRvRmv (rm : RM) (r : Reg)
  /-- CMP AL,imm8: match 3C (rule R503). -/
  | cmpAlImm8 (imm : BitVec 8)
  /-- CMP AX,imm16 | EAX,imm32: match 3D (rule R503). -/
  | cmpAxImmv (imm : BitVec 32)
  /-- CMP r/m8,imm8: match 80 38 (rule R503). -/
  | cmpRm8Imm8 (rm : RM) (imm : BitVec 8)
  /-- CMP r/m16,imm16 | r/m32,imm32: match 81 38 (rule R503). -/
  | cmpRmvImmv (rm : RM) (imm : BitVec 32)
  /-- CMP r/m16,imm8 | r/m32,imm8: match 83 38 (rule R503). -/
  | cmpRmvImm8 (rm : RM) (imm : BitVec 8)
  /-- INC r16 | r32: match 40 (rule R515). -/
  | incReg (r : Reg)
  /-- DEC r16 | r32: match 48 (rule R508). -/
  | decReg (r : Reg)
  /-- PUSH r16 | r32: match 50 (rule R331). -/
  | pushReg (r : Reg)
  /-- POP r16 | r32: match 58 (rule R322). -/
  | popReg (r : Reg)
  /-- BOUND r16,m16&16 | r32,m32&32: match 62 (rule R489). -/
  | bound (m : Mem) (r : Reg)
  /-- ARPL r/m16,r16: match 63 (rule R488). -/
  | arpl (rm : RM) (r : Reg)
  /-- PUSH imm16 | imm32: match 68 (rule R333). -/
  | pushImmv (imm : BitVec 32)
  /-- IMUL r16,r/m16,imm16 | r32,r/m32,imm32: match 69 (rule R513). -/
  | imulRvRmvImmv (rm : RM) (r : Reg) (imm : BitVec 32)
  /-- PUSH imm8: match 6A (rule R333). -/
  | pushImm8 (imm : BitVec 8)
  /-- IMUL r16,r/m16,imm8 | r32,r/m32,imm8: match 6B (rule R513). -/
  | imulRvRmvImm8 (rm : RM) (r : Reg) (imm : BitVec 8)
  /-- JO rel8: match 70 (rule R519);
  JO rel16 | rel32: match 0F 80 (rule R519). -/
  | jo (rel : Rel)
  /-- JNO rel8: match 71 (rule R519);
  JNO rel16 | rel32: match 0F 81 (rule R519). -/
  | jno (rel : Rel)
  /-- JB rel8: match 72 (rule R519);
  JB rel16 | rel32: match 0F 82 (rule R519). -/
  | jb (rel : Rel)
  /-- JNB rel8: match 73 (rule R519);
  JNB rel16 | rel32: match 0F 83 (rule R519). -/
  | jnb (rel : Rel)
  /-- JZ rel8: match 74 (rule R519);
  JZ rel16 | rel32: match 0F 84 (rule R519). -/
  | jz (rel : Rel)
  /-- JNZ rel8: match 75 (rule R519);
  JNZ rel16 | rel32: match 0F 85 (rule R519). -/
  | jnz (rel : Rel)
  /-- JBE rel8: match 76 (rule R519);
  JBE rel16 | rel32: match 0F 86 (rule R519). -/
  | jbe (rel : Rel)
  /-- JNBE rel8: match 77 (rule R519);
  JNBE rel16 | rel32: match 0F 87 (rule R519). -/
  | jnbe (rel : Rel)
  /-- JS rel8: match 78 (rule R519);
  JS rel16 | rel32: match 0F 88 (rule R519). -/
  | js (rel : Rel)
  /-- JNS rel8: match 79 (rule R519);
  JNS rel16 | rel32: match 0F 89 (rule R519). -/
  | jns (rel : Rel)
  /-- JP rel8: match 7A (rule R519);
  JP rel16 | rel32: match 0F 8A (rule R519). -/
  | jp (rel : Rel)
  /-- JNP rel8: match 7B (rule R519);
  JNP rel16 | rel32: match 0F 8B (rule R519). -/
  | jnp (rel : Rel)
  /-- JL rel8: match 7C (rule R519);
  JL rel16 | rel32: match 0F 8C (rule R519). -/
  | jl (rel : Rel)
  /-- JNL rel8: match 7D (rule R519);
  JNL rel16 | rel32: match 0F 8D (rule R519). -/
  | jnl (rel : Rel)
  /-- JLE rel8: match 7E (rule R519);
  JLE rel16 | rel32: match 0F 8E (rule R519). -/
  | jle (rel : Rel)
  /-- JNLE rel8: match 7F (rule R519);
  JNLE rel16 | rel32: match 0F 8F (rule R519). -/
  | jnle (rel : Rel)
  /-- TEST r/m8,r8: match 84 (rule R269). -/
  | testRm8R8 (rm : RM) (r : Reg)
  /-- TEST r/m16,r16 | r/m32,r32: match 85 (rule R269). -/
  | testRmvRv (rm : RM) (r : Reg)
  /-- XCHG r/m8,r8 | r8,r/m8: match 86 (rule R448). -/
  | xchgRm8R8 (rm : RM) (r : Reg)
  /-- XCHG r/m16,r16 | r16,r/m16 | r/m32,r32 | r32,r/m32: match 87 (rule R448). -/
  | xchgRmvRv (rm : RM) (r : Reg)
  /-- MOV r/m8,r8: match 88 (rule R201). -/
  | movRm8R8 (rm : RM) (r : Reg)
  /-- MOV r/m16,r16 | r/m32,r32: match 89 (rule R201). -/
  | movRmvRv (rm : RM) (r : Reg)
  /-- MOV r8,r/m8: match 8A (rule R201). -/
  | movR8Rm8 (rm : RM) (r : Reg)
  /-- MOV r16,r/m16 | r32,r/m32: match 8B (rule R201). -/
  | movRvRmv (rm : RM) (r : Reg)
  /-- MOV r/m16,Sreg: match 8C (rule R207). -/
  | movRm16Sreg (rm : RM) (sr : SegReg)
  /-- LEA r16,m | r32,m: match 8D (rule R525). -/
  | lea (m : Mem) (r : Reg)
  /-- MOV Sreg,r/m16: match 8E (rule R205). -/
  | movSregRm16 (rm : RM) (sr : SegReg)
  /-- POP m16 | m32: match 8F 00 (rule R323). -/
  | popRm (rm : RM)
  /-- XCHG AX,r16 | r16,AX | EAX,r32 | r32,EAX: match 90 (rule R449). -/
  | xchgAxReg (r : Reg)
  /-- CALL ptr16:16 | ptr16:32: match 9A (rule R496). -/
  | callPtr (off : BitVec 32) (sel : BitVec 16)
  /-- MOV AL,moffs8: match A0 (rule R202). -/
  | movAlMoffs (off : BitVec 32)
  /-- MOV AX,moffs16 | EAX,moffs32: match A1 (rule R202). -/
  | movAxMoffs (off : BitVec 32)
  /-- MOV moffs8,AL: match A2 (rule R202). -/
  | movMoffsAl (off : BitVec 32)
  /-- MOV moffs16,AX | moffs32,EAX: match A3 (rule R202). -/
  | movMoffsAx (off : BitVec 32)
  /-- TEST AL,imm8: match A8 (rule R269). -/
  | testAlImm8 (imm : BitVec 8)
  /-- TEST AX,imm16 | EAX,imm32: match A9 (rule R269). -/
  | testAxImmv (imm : BitVec 32)
  /-- MOV reg8,imm8: match B0 (rule R203). -/
  | movReg8Imm8 (r : Reg) (imm : BitVec 8)
  /-- MOV reg16,imm16 | reg32,imm32: match B8 (rule R203). -/
  | movRegvImmv (r : Reg) (imm : BitVec 32)
  /-- ROL r/m8,imm8: match C0 00 (rule R361);
  ROL r/m8,1: match D0 00 (rule R361);
  ROL r/m8,CL: match D2 00 (rule R361). -/
  | rolRm8 (rm : RM) (n : Count)
  /-- ROL r/m16,imm8 | r/m32,imm8: match C1 00 (rule R361);
  ROL r/m16,1 | r/m32,1: match D1 00 (rule R361);
  ROL r/m16,CL | r/m32,CL: match D3 00 (rule R361). -/
  | rolRmv (rm : RM) (n : Count)
  /-- ROR r/m8,imm8: match C0 08 (rule R362);
  ROR r/m8,1: match D0 08 (rule R362);
  ROR r/m8,CL: match D2 08 (rule R362). -/
  | rorRm8 (rm : RM) (n : Count)
  /-- ROR r/m16,imm8 | r/m32,imm8: match C1 08 (rule R362);
  ROR r/m16,1 | r/m32,1: match D1 08 (rule R362);
  ROR r/m16,CL | r/m32,CL: match D3 08 (rule R362). -/
  | rorRmv (rm : RM) (n : Count)
  /-- RCL r/m8,imm8: match C0 10 (rule R363);
  RCL r/m8,1: match D0 10 (rule R363);
  RCL r/m8,CL: match D2 10 (rule R363). -/
  | rclRm8 (rm : RM) (n : Count)
  /-- RCL r/m16,imm8 | r/m32,imm8: match C1 10 (rule R363);
  RCL r/m16,1 | r/m32,1: match D1 10 (rule R363);
  RCL r/m16,CL | r/m32,CL: match D3 10 (rule R363). -/
  | rclRmv (rm : RM) (n : Count)
  /-- RCR r/m8,imm8: match C0 18 (rule R364);
  RCR r/m8,1: match D0 18 (rule R364);
  RCR r/m8,CL: match D2 18 (rule R364). -/
  | rcrRm8 (rm : RM) (n : Count)
  /-- RCR r/m16,imm8 | r/m32,imm8: match C1 18 (rule R364);
  RCR r/m16,1 | r/m32,1: match D1 18 (rule R364);
  RCR r/m16,CL | r/m32,CL: match D3 18 (rule R364). -/
  | rcrRmv (rm : RM) (n : Count)
  /-- SHL_SAL r/m8,imm8: match C0 20 (rule R365);
  SHL_SAL r/m8,1: match D0 20 (rule R365);
  SHL_SAL r/m8,CL: match D2 20 (rule R365). -/
  | shlRm8 (rm : RM) (n : Count)
  /-- SHL_SAL r/m16,imm8 | r/m32,imm8: match C1 20 (rule R365);
  SHL_SAL r/m16,1 | r/m32,1: match D1 20 (rule R365);
  SHL_SAL r/m16,CL | r/m32,CL: match D3 20 (rule R365). -/
  | shlRmv (rm : RM) (n : Count)
  /-- SHR r/m8,imm8: match C0 28 (rule R366);
  SHR r/m8,1: match D0 28 (rule R366);
  SHR r/m8,CL: match D2 28 (rule R366). -/
  | shrRm8 (rm : RM) (n : Count)
  /-- SHR r/m16,imm8 | r/m32,imm8: match C1 28 (rule R366);
  SHR r/m16,1 | r/m32,1: match D1 28 (rule R366);
  SHR r/m16,CL | r/m32,CL: match D3 28 (rule R366). -/
  | shrRmv (rm : RM) (n : Count)
  /-- SAR r/m8,imm8: match C0 38 (rule R367);
  SAR r/m8,1: match D0 38 (rule R367);
  SAR r/m8,CL: match D2 38 (rule R367). -/
  | sarRm8 (rm : RM) (n : Count)
  /-- SAR r/m16,imm8 | r/m32,imm8: match C1 38 (rule R367);
  SAR r/m16,1 | r/m32,1: match D1 38 (rule R367);
  SAR r/m16,CL | r/m32,CL: match D3 38 (rule R367). -/
  | sarRmv (rm : RM) (n : Count)
  /-- RET imm16 (near): match C2 (rule R401). -/
  | retNearImm (imm : BitVec 16)
  /-- LES r16,m16:16 | r32,m16:32: match C4 (rule R524). -/
  | les (m : Mem) (r : Reg)
  /-- LDS r16,m16:16 | r32,m16:32: match C5 (rule R524). -/
  | lds (m : Mem) (r : Reg)
  /-- MOV r/m8,imm8: match C6 00 (rule R204). -/
  | movRm8Imm8 (rm : RM) (imm : BitVec 8)
  /-- MOV r/m16,imm16 | r/m32,imm32: match C7 00 (rule R204). -/
  | movRmvImmv (rm : RM) (imm : BitVec 32)
  /-- ENTER imm16,imm8: match C8 (rule R510). -/
  | enter (imm : BitVec 16) (level : BitVec 8)
  /-- RET imm16 (far): match CA (rule R403). -/
  | retFarImm (imm : BitVec 16)
  /-- INT imm8: match CD (rule R517). -/
  | intImm8 (imm : BitVec 8)
  /-- ESC m | r: match D8 (rule R560). -/
  | esc (low : BitVec 3) (ext : BitVec 3) (rm : RM)
  /-- LOOPNE rel8 | LOOPNZ: match E0 (rule R532). -/
  | loopne (rel : BitVec 8)
  /-- LOOPE rel8 | LOOPZ: match E1 (rule R532). -/
  | loope (rel : BitVec 8)
  /-- LOOP rel8: match E2 (rule R532). -/
  | loop (rel : BitVec 8)
  /-- JCXZ rel8 | JECXZ: match E3 (rule R520). -/
  | jcxz (rel : BitVec 8)
  /-- IN AL,imm8: match E4 (rule R514). -/
  | inAlImm8 (imm : BitVec 8)
  /-- IN AX,imm8 | EAX,imm8: match E5 (rule R514). -/
  | inAxImm8 (imm : BitVec 8)
  /-- OUT imm8,AL: match E6 (rule R300). -/
  | outImm8Al (imm : BitVec 8)
  /-- OUT imm8,AX | imm8,EAX: match E7 (rule R300). -/
  | outImm8Ax (imm : BitVec 8)
  /-- CALL rel16 | rel32: match E8 (rule R496). -/
  | callRel (rel : BitVec 32)
  /-- JMP rel16 | rel32: match E9 (rule R521). -/
  | jmpRel (rel : BitVec 32)
  /-- JMP ptr16:16 | ptr16:32: match EA (rule R521). -/
  | jmpPtr (off : BitVec 32) (sel : BitVec 16)
  /-- JMP rel8: match EB (rule R521). -/
  | jmpRel8 (rel : BitVec 8)
  /-- TEST r/m8,imm8: match F6 00 (rule R269). -/
  | testRm8Imm8 (rm : RM) (imm : BitVec 8)
  /-- NOT r/m8: match F6 10 (rule R264). -/
  | notRm8 (rm : RM)
  /-- NEG r/m8: match F6 18 (rule R263). -/
  | negRm8 (rm : RM)
  /-- MUL AL,r/m8: match F6 20 (rule R260). -/
  | mulRm8 (rm : RM)
  /-- IMUL r/m8: match F6 28 (rule R513). -/
  | imulRm8 (rm : RM)
  /-- DIV r/m8: match F6 30 (rule R509). -/
  | divRm8 (rm : RM)
  /-- IDIV r/m8: match F6 38 (rule R512). -/
  | idivRm8 (rm : RM)
  /-- TEST r/m16,imm16 | r/m32,imm32: match F7 00 (rule R269). -/
  | testRmvImmv (rm : RM) (imm : BitVec 32)
  /-- NOT r/m16 | r/m32: match F7 10 (rule R264). -/
  | notRmv (rm : RM)
  /-- NEG r/m16 | r/m32: match F7 18 (rule R263). -/
  | negRmv (rm : RM)
  /-- MUL AX,r/m16 | EAX,r/m32: match F7 20 (rule R260). -/
  | mulRmv (rm : RM)
  /-- IMUL r/m16 | r/m32: match F7 28 (rule R513). -/
  | imulRmv (rm : RM)
  /-- DIV r/m16 | r/m32: match F7 30 (rule R509). -/
  | divRmv (rm : RM)
  /-- IDIV r/m16 | r/m32: match F7 38 (rule R512). -/
  | idivRmv (rm : RM)
  /-- INC r/m8: match FE 00 (rule R515). -/
  | incRm8 (rm : RM)
  /-- DEC r/m8: match FE 08 (rule R508). -/
  | decRm8 (rm : RM)
  /-- INC r/m16 | r/m32: match FF 00 (rule R515). -/
  | incRmv (rm : RM)
  /-- DEC r/m16 | r/m32: match FF 08 (rule R508). -/
  | decRmv (rm : RM)
  /-- CALL r/m16 | r/m32: match FF 10 (rule R496). -/
  | callRmv (rm : RM)
  /-- CALL m16:16 | m16:32: match FF 18 (rule R496). -/
  | callMem (m : Mem)
  /-- JMP r/m16 | r/m32: match FF 20 (rule R521). -/
  | jmpRmv (rm : RM)
  /-- JMP m16:16 | m16:32: match FF 28 (rule R521). -/
  | jmpMem (m : Mem)
  /-- PUSH m16 | m32: match FF 30 (rule R332). -/
  | pushRm (rm : RM)
  /-- SLDT r/m16: match 0F 00 00 (rule R463). -/
  | sldt (rm : RM)
  /-- STR r/m16: match 0F 00 08 (rule R465). -/
  | str (rm : RM)
  /-- LLDT r/m16: match 0F 00 10 (rule R528). -/
  | lldt (rm : RM)
  /-- LTR r/m16: match 0F 00 18 (rule R534). -/
  | ltr (rm : RM)
  /-- VERR r/m16: match 0F 00 20 (rule R466). -/
  | verr (rm : RM)
  /-- VERW r/m16: match 0F 00 28 (rule R467). -/
  | verw (rm : RM)
  /-- SGDT m: match 0F 01 00 (rule R460). -/
  | sgdt (rm : RM)
  /-- SIDT m: match 0F 01 08 (rule R461). -/
  | sidt (rm : RM)
  /-- LGDT m16&32: match 0F 01 10 (rule R527). -/
  | lgdt (m : Mem)
  /-- LIDT m16&32: match 0F 01 18 (rule R527). -/
  | lidt (m : Mem)
  /-- SMSW r/m16: match 0F 01 20 (rule R464). -/
  | smsw (rm : RM)
  /-- LMSW r/m16: match 0F 01 30 (rule R529). -/
  | lmsw (rm : RM)
  /-- LAR r16,r/m16 | r32,r/m32: match 0F 02 (rule R523). -/
  | lar (rm : RM) (r : Reg)
  /-- LSL r16,r/m16 | r32,r/m32: match 0F 03 (rule R533). -/
  | lsl (rm : RM) (r : Reg)
  /-- MOV r32,CR0/CR2/CR3: match 0F 20 C0 (rule R210). -/
  | movR32Cr (c : CReg) (r : Reg)
  /-- MOV r32,DR0-3/DR6/DR7: match 0F 21 C0 (rule R212). -/
  | movR32Dr (d : DReg) (r : Reg)
  /-- MOV CR0/CR2/CR3,r32: match 0F 22 C0 (rule R211). -/
  | movCrR32 (c : CReg) (r : Reg)
  /-- MOV DR0-3/DR6/DR7,r32: match 0F 23 C0 (rule R213). -/
  | movDrR32 (d : DReg) (r : Reg)
  /-- MOV r32,TR6/TR7: match 0F 24 C0 (rule R214). -/
  | movR32Tr (t : TReg) (r : Reg)
  /-- MOV TR6/TR7,r32: match 0F 26 C0 (rule R215). -/
  | movTrR32 (t : TReg) (r : Reg)
  /-- SETO r/m8: match 0F 90 00 (rule R432). -/
  | seto (rm : RM)
  /-- SETNO r/m8: match 0F 91 00 (rule R432). -/
  | setno (rm : RM)
  /-- SETB r/m8: match 0F 92 00 (rule R432). -/
  | setb (rm : RM)
  /-- SETNB r/m8: match 0F 93 00 (rule R432). -/
  | setnb (rm : RM)
  /-- SETZ r/m8: match 0F 94 00 (rule R432). -/
  | setz (rm : RM)
  /-- SETNZ r/m8: match 0F 95 00 (rule R432). -/
  | setnz (rm : RM)
  /-- SETBE r/m8: match 0F 96 00 (rule R432). -/
  | setbe (rm : RM)
  /-- SETNBE r/m8: match 0F 97 00 (rule R432). -/
  | setnbe (rm : RM)
  /-- SETS r/m8: match 0F 98 00 (rule R432). -/
  | sets (rm : RM)
  /-- SETNS r/m8: match 0F 99 00 (rule R432). -/
  | setns (rm : RM)
  /-- SETP r/m8: match 0F 9A 00 (rule R432). -/
  | setp (rm : RM)
  /-- SETNP r/m8: match 0F 9B 00 (rule R432). -/
  | setnp (rm : RM)
  /-- SETL r/m8: match 0F 9C 00 (rule R432). -/
  | setl (rm : RM)
  /-- SETNL r/m8: match 0F 9D 00 (rule R432). -/
  | setnl (rm : RM)
  /-- SETLE r/m8: match 0F 9E 00 (rule R432). -/
  | setle (rm : RM)
  /-- SETNLE r/m8: match 0F 9F 00 (rule R432). -/
  | setnle (rm : RM)
  /-- BT r/m16,r16 | r/m32,r32: match 0F A3 (rule R492). -/
  | btRmvRv (rm : RM) (r : Reg)
  /-- SHLD r/m16,r16,imm8 | r/m32,r32,imm8: match 0F A4 (rule R368). -/
  | shldImm8 (rm : RM) (r : Reg) (imm : BitVec 8)
  /-- SHLD r/m16,r16,CL | r/m32,r32,CL: match 0F A5 (rule R368). -/
  | shldCl (rm : RM) (r : Reg)
  /-- BTS r/m16,r16 | r/m32,r32: match 0F AB (rule R495). -/
  | btsRmvRv (rm : RM) (r : Reg)
  /-- SHRD r/m16,r16,imm8 | r/m32,r32,imm8: match 0F AC (rule R369). -/
  | shrdImm8 (rm : RM) (r : Reg) (imm : BitVec 8)
  /-- SHRD r/m16,r16,CL | r/m32,r32,CL: match 0F AD (rule R369). -/
  | shrdCl (rm : RM) (r : Reg)
  /-- IMUL r16,r/m16 | r32,r/m32: match 0F AF (rule R513). -/
  | imulRvRmv (rm : RM) (r : Reg)
  /-- LSS r16,m16:16 | r32,m16:32: match 0F B2 (rule R524). -/
  | lss (m : Mem) (r : Reg)
  /-- BTR r/m16,r16 | r/m32,r32: match 0F B3 (rule R494). -/
  | btrRmvRv (rm : RM) (r : Reg)
  /-- LFS r16,m16:16 | r32,m16:32: match 0F B4 (rule R524). -/
  | lfs (m : Mem) (r : Reg)
  /-- LGS r16,m16:16 | r32,m16:32: match 0F B5 (rule R524). -/
  | lgs (m : Mem) (r : Reg)
  /-- MOVZX r16,r/m8 | r32,r/m8: match 0F B6 (rule R217). -/
  | movzx8 (rm : RM) (r : Reg)
  /-- MOVZX r32,r/m16: match 0F B7 (rule R217). -/
  | movzx16 (rm : RM) (r : Reg)
  /-- BT r/m16,imm8 | r/m32,imm8: match 0F BA 20 (rule R492). -/
  | btRmvImm8 (rm : RM) (imm : BitVec 8)
  /-- BTS r/m16,imm8 | r/m32,imm8: match 0F BA 28 (rule R495). -/
  | btsRmvImm8 (rm : RM) (imm : BitVec 8)
  /-- BTR r/m16,imm8 | r/m32,imm8: match 0F BA 30 (rule R494). -/
  | btrRmvImm8 (rm : RM) (imm : BitVec 8)
  /-- BTC r/m16,imm8 | r/m32,imm8: match 0F BA 38 (rule R493). -/
  | btcRmvImm8 (rm : RM) (imm : BitVec 8)
  /-- BTC r/m16,r16 | r/m32,r32: match 0F BB (rule R493). -/
  | btcRmvRv (rm : RM) (r : Reg)
  /-- BSF r16,r/m16 | r32,r/m32: match 0F BC (rule R490). -/
  | bsf (rm : RM) (r : Reg)
  /-- BSR r16,r/m16 | r32,r/m32: match 0F BD (rule R491). -/
  | bsr (rm : RM) (r : Reg)
  /-- MOVSX r16,r/m8 | r32,r/m8: match 0F BE (rule R216). -/
  | movsx8 (rm : RM) (r : Reg)
  /-- MOVSX r32,r/m16: match 0F BF (rule R216). -/
  | movsx16 (rm : RM) (r : Reg)
  /-- SEG=ES prefix: match 26 (rule R113). -/
  | segEs
  /-- SEG=CS prefix: match 2E (rule R113). -/
  | segCs
  /-- SEG=SS prefix: match 36 (rule R113). -/
  | segSs
  /-- SEG=DS prefix: match 3E (rule R113). -/
  | segDs
  /-- SEG=FS prefix: match 64 (rule R113). -/
  | segFs
  /-- SEG=GS prefix: match 65 (rule R113). -/
  | segGs
  /-- OPSIZE prefix: match 66 (rule R118). -/
  | opsize
  /-- ADDRSIZE prefix: match 67 (rule R119). -/
  | addrsize
  /-- LOCK prefix: match F0 (rule R115). -/
  | lock
  /-- REPNE prefix: match F2 (rule R116). -/
  | repne
  /-- REP_REPE prefix: match F3 (rule R116). -/
  | rep
  /-- PUSH ES: match 06 (rule R334). -/
  | pushEs
  /-- POP ES: match 07 (rule R325). -/
  | popEs
  /-- PUSH CS: match 0E (rule R334). -/
  | pushCs
  /-- PUSH SS: match 16 (rule R334). -/
  | pushSs
  /-- POP SS: match 17 (rule R325). -/
  | popSs
  /-- PUSH DS: match 1E (rule R334). -/
  | pushDs
  /-- POP DS: match 1F (rule R325). -/
  | popDs
  /-- DAA: match 27 (rule R506). -/
  | daa
  /-- DAS: match 2F (rule R507). -/
  | das
  /-- AAA: match 37 (rule R481). -/
  | aaa
  /-- AAS: match 3F (rule R484). -/
  | aas
  /-- AAM: match D4 0A (rule R483). -/
  | aam
  /-- AAD: match D5 0A (rule R482). -/
  | aad
  /-- PUSHA | PUSHAD: match 60 (rule R336). -/
  | pusha
  /-- POPA | POPAD: match 61 (rule R337). -/
  | popa
  /-- INS m8,DX | INSB: match 6C (rule R516). -/
  | ins8
  /-- INS m16,DX | m32,DX | INSW | INSD: match 6D (rule R516). -/
  | insv
  /-- OUTS DX,r/m8 | OUTSB: match 6E (rule R302). -/
  | outs8
  /-- OUTS DX,r/m16 | DX,r/m32 | OUTSW | OUTSD: match 6F (rule R302). -/
  | outsv
  /-- NOP: match 90 (rule R430). -/
  | nop
  /-- CBW | CWDE: match 98 (rule R497). -/
  | cbw
  /-- CWD | CDQ: match 99 (rule R505). -/
  | cwd
  /-- WAIT: match 9B (rule R446). -/
  | wait
  /-- PUSHF | PUSHFD: match 9C (rule R338). -/
  | pushf
  /-- POPF | POPFD: match 9D (rule R340). -/
  | popf
  /-- SAHF: match 9E (rule R431). -/
  | sahf
  /-- LAHF: match 9F (rule R522). -/
  | lahf
  /-- MOVS m8,m8 | MOVSB: match A4 (rule R230). -/
  | movs8
  /-- MOVS m16,m16 | m32,m32 | MOVSW | MOVSD: match A5 (rule R230). -/
  | movsv
  /-- CMPS m8,m8 | CMPSB: match A6 (rule R504). -/
  | cmps8
  /-- CMPS m16,m16 | m32,m32 | CMPSW | CMPSD: match A7 (rule R504). -/
  | cmpsv
  /-- STOS m8 | STOSB: match AA (rule R232). -/
  | stos8
  /-- STOS m16 | m32 | STOSW | STOSD: match AB (rule R232). -/
  | stosv
  /-- LODS m8 | LODSB: match AC (rule R531). -/
  | lods8
  /-- LODS m16 | m32 | LODSW | LODSD: match AD (rule R531). -/
  | lodsv
  /-- SCAS m8 | SCASB: match AE (rule R231). -/
  | scas8
  /-- SCAS m16 | m32 | SCASW | SCASD: match AF (rule R231). -/
  | scasv
  /-- RET (near): match C3 (rule R400). -/
  | retNear
  /-- LEAVE: match C9 (rule R526). -/
  | leave
  /-- RET (far): match CB (rule R402). -/
  | retFar
  /-- INT 3: match CC (rule R517). -/
  | int3
  /-- INTO: match CE (rule R517). -/
  | into
  /-- IRET | IRETD: match CF (rule R518). -/
  | iret
  /-- XLAT m8 | XLATB: match D7 (rule R450). -/
  | xlat
  /-- IN AL,DX: match EC (rule R514). -/
  | inAlDx
  /-- IN AX,DX | EAX,DX: match ED (rule R514). -/
  | inAxDx
  /-- OUT DX,AL: match EE (rule R301). -/
  | outDxAl
  /-- OUT DX,AX | DX,EAX: match EF (rule R301). -/
  | outDxAx
  /-- HLT: match F4 (rule R511). -/
  | hlt
  /-- CMC: match F5 (rule R502). -/
  | cmc
  /-- CLC: match F8 (rule R498). -/
  | clc
  /-- STC: match F9 (rule R440). -/
  | stc
  /-- CLI: match FA (rule R500). -/
  | cli
  /-- STI: match FB (rule R442). -/
  | sti
  /-- CLD: match FC (rule R499). -/
  | cld
  /-- STD: match FD (rule R441). -/
  | std
  /-- CLTS: match 0F 06 (rule R501). -/
  | clts
  /-- PUSH FS: match 0F A0 (rule R334). -/
  | pushFs
  /-- POP FS: match 0F A1 (rule R327). -/
  | popFs
  /-- PUSH GS: match 0F A8 (rule R334). -/
  | pushGs
  /-- POP GS: match 0F A9 (rule R327). -/
  | popGs
  deriving DecidableEq, Repr

end Sys2Proof
end

