-- ==== Sys2Proof/WellFormed.lean ====
section
/-! DEFINITION. Which syntax terms an encoding exists for, under given operand-size and address-size attributes. -/

namespace Sys2Proof

/-- An immediate, displacement or offset field of the given size attribute holds the value (rules R136 to R138):
with the 16-bit attribute the upper half of the zero-extended value is zero. -/
def fits (sz : Size) (v : BitVec 32) : Bool :=
  match sz with
  | .s16 => decide (v.toNat < 2 ^ 16)
  | .s32 => true

/-- ESP cannot be an index, and "no index" requires scale factor 1 (rule R132). -/
def indexWf (sc : Scale) (index : Option Reg) : Bool :=
  match index with
  | none => sc == .x1
  | some r => r != .esp

/-- The memory operand has an encoding under address size `a` (rules R130 to R133): 16-bit forms belong to 16-bit
addressing and 32-bit forms to 32-bit addressing; base BP or EBP without displacement is the direct form's code;
base ESP without an s-i-b byte does not exist. -/
def Mem.wf (a : Size) : Mem → Bool
  | .direct16 _ => a == .s16
  | .base16 b d => a == .s16 && !(b == .bp && d == .none)
  | .direct32 _ => a == .s32
  | .base32 b d => a == .s32 && b != .esp && !(b == .ebp && d == .none)
  | .sib sc index b d => a == .s32 && indexWf sc index && !(b == .ebp && d == .none)
  | .sibNoBase sc index _ => a == .s32 && indexWf sc index

/-- The mod r/m operand has an encoding under address size `a` (rule R134). -/
def RM.wf (a : Size) : RM → Bool
  | .reg _ => true
  | .mem m => m.wf a

/-- The displacement has an encoding under operand size `o` (rule R138). -/
def Rel.wf (o : Size) : Rel → Bool
  | .short _ => true
  | .near rel => fits o rel

/-- The instruction has an encoding under operand size `o` and address size `a`: its memory operand does, its
full-size fields fit, the short exchange does not name the accumulator (that byte is NOP, rule R449), and a move into
a segment register does not name CS (rule R206). -/
def Instr.wf (o a : Size) : Instr → Bool
  | .addRm8R8 rm _ => rm.wf a
  | .addRmvRv rm _ => rm.wf a
  | .addR8Rm8 rm _ => rm.wf a
  | .addRvRmv rm _ => rm.wf a
  | .addAlImm8 _ => true
  | .addAxImmv imm => fits o imm
  | .addRm8Imm8 rm _ => rm.wf a
  | .addRmvImmv rm imm => rm.wf a && fits o imm
  | .addRmvImm8 rm _ => rm.wf a
  | .orRm8R8 rm _ => rm.wf a
  | .orRmvRv rm _ => rm.wf a
  | .orR8Rm8 rm _ => rm.wf a
  | .orRvRmv rm _ => rm.wf a
  | .orAlImm8 _ => true
  | .orAxImmv imm => fits o imm
  | .orRm8Imm8 rm _ => rm.wf a
  | .orRmvImmv rm imm => rm.wf a && fits o imm
  | .orRmvImm8 rm _ => rm.wf a
  | .adcRm8R8 rm _ => rm.wf a
  | .adcRmvRv rm _ => rm.wf a
  | .adcR8Rm8 rm _ => rm.wf a
  | .adcRvRmv rm _ => rm.wf a
  | .adcAlImm8 _ => true
  | .adcAxImmv imm => fits o imm
  | .adcRm8Imm8 rm _ => rm.wf a
  | .adcRmvImmv rm imm => rm.wf a && fits o imm
  | .adcRmvImm8 rm _ => rm.wf a
  | .sbbRm8R8 rm _ => rm.wf a
  | .sbbRmvRv rm _ => rm.wf a
  | .sbbR8Rm8 rm _ => rm.wf a
  | .sbbRvRmv rm _ => rm.wf a
  | .sbbAlImm8 _ => true
  | .sbbAxImmv imm => fits o imm
  | .sbbRm8Imm8 rm _ => rm.wf a
  | .sbbRmvImmv rm imm => rm.wf a && fits o imm
  | .sbbRmvImm8 rm _ => rm.wf a
  | .andRm8R8 rm _ => rm.wf a
  | .andRmvRv rm _ => rm.wf a
  | .andR8Rm8 rm _ => rm.wf a
  | .andRvRmv rm _ => rm.wf a
  | .andAlImm8 _ => true
  | .andAxImmv imm => fits o imm
  | .andRm8Imm8 rm _ => rm.wf a
  | .andRmvImmv rm imm => rm.wf a && fits o imm
  | .andRmvImm8 rm _ => rm.wf a
  | .subRm8R8 rm _ => rm.wf a
  | .subRmvRv rm _ => rm.wf a
  | .subR8Rm8 rm _ => rm.wf a
  | .subRvRmv rm _ => rm.wf a
  | .subAlImm8 _ => true
  | .subAxImmv imm => fits o imm
  | .subRm8Imm8 rm _ => rm.wf a
  | .subRmvImmv rm imm => rm.wf a && fits o imm
  | .subRmvImm8 rm _ => rm.wf a
  | .xorRm8R8 rm _ => rm.wf a
  | .xorRmvRv rm _ => rm.wf a
  | .xorR8Rm8 rm _ => rm.wf a
  | .xorRvRmv rm _ => rm.wf a
  | .xorAlImm8 _ => true
  | .xorAxImmv imm => fits o imm
  | .xorRm8Imm8 rm _ => rm.wf a
  | .xorRmvImmv rm imm => rm.wf a && fits o imm
  | .xorRmvImm8 rm _ => rm.wf a
  | .cmpRm8R8 rm _ => rm.wf a
  | .cmpRmvRv rm _ => rm.wf a
  | .cmpR8Rm8 rm _ => rm.wf a
  | .cmpRvRmv rm _ => rm.wf a
  | .cmpAlImm8 _ => true
  | .cmpAxImmv imm => fits o imm
  | .cmpRm8Imm8 rm _ => rm.wf a
  | .cmpRmvImmv rm imm => rm.wf a && fits o imm
  | .cmpRmvImm8 rm _ => rm.wf a
  | .incReg _ => true
  | .decReg _ => true
  | .pushReg _ => true
  | .popReg _ => true
  | .bound m _ => m.wf a
  | .arpl rm _ => rm.wf a
  | .pushImmv imm => fits o imm
  | .imulRvRmvImmv rm _ imm => rm.wf a && fits o imm
  | .pushImm8 _ => true
  | .imulRvRmvImm8 rm _ _ => rm.wf a
  | .jo rel => rel.wf o
  | .jno rel => rel.wf o
  | .jb rel => rel.wf o
  | .jnb rel => rel.wf o
  | .jz rel => rel.wf o
  | .jnz rel => rel.wf o
  | .jbe rel => rel.wf o
  | .jnbe rel => rel.wf o
  | .js rel => rel.wf o
  | .jns rel => rel.wf o
  | .jp rel => rel.wf o
  | .jnp rel => rel.wf o
  | .jl rel => rel.wf o
  | .jnl rel => rel.wf o
  | .jle rel => rel.wf o
  | .jnle rel => rel.wf o
  | .testRm8R8 rm _ => rm.wf a
  | .testRmvRv rm _ => rm.wf a
  | .xchgRm8R8 rm _ => rm.wf a
  | .xchgRmvRv rm _ => rm.wf a
  | .movRm8R8 rm _ => rm.wf a
  | .movRmvRv rm _ => rm.wf a
  | .movR8Rm8 rm _ => rm.wf a
  | .movRvRmv rm _ => rm.wf a
  | .movRm16Sreg rm _ => rm.wf a
  | .lea m _ => m.wf a
  | .movSregRm16 rm sr => rm.wf a && sr != .cs
  | .popRm rm => rm.wf a
  | .xchgAxReg r => r != .eax
  | .callPtr off _ => fits o off
  | .movAlMoffs off => fits a off
  | .movAxMoffs off => fits a off
  | .movMoffsAl off => fits a off
  | .movMoffsAx off => fits a off
  | .testAlImm8 _ => true
  | .testAxImmv imm => fits o imm
  | .movReg8Imm8 _ _ => true
  | .movRegvImmv _ imm => fits o imm
  | .rolRm8 rm _ => rm.wf a
  | .rolRmv rm _ => rm.wf a
  | .rorRm8 rm _ => rm.wf a
  | .rorRmv rm _ => rm.wf a
  | .rclRm8 rm _ => rm.wf a
  | .rclRmv rm _ => rm.wf a
  | .rcrRm8 rm _ => rm.wf a
  | .rcrRmv rm _ => rm.wf a
  | .shlRm8 rm _ => rm.wf a
  | .shlRmv rm _ => rm.wf a
  | .shrRm8 rm _ => rm.wf a
  | .shrRmv rm _ => rm.wf a
  | .sarRm8 rm _ => rm.wf a
  | .sarRmv rm _ => rm.wf a
  | .retNearImm _ => true
  | .les m _ => m.wf a
  | .lds m _ => m.wf a
  | .movRm8Imm8 rm _ => rm.wf a
  | .movRmvImmv rm imm => rm.wf a && fits o imm
  | .enter _ _ => true
  | .retFarImm _ => true
  | .intImm8 _ => true
  | .esc _ _ rm => rm.wf a
  | .loopne _ => true
  | .loope _ => true
  | .loop _ => true
  | .jcxz _ => true
  | .inAlImm8 _ => true
  | .inAxImm8 _ => true
  | .outImm8Al _ => true
  | .outImm8Ax _ => true
  | .callRel rel => fits o rel
  | .jmpRel rel => fits o rel
  | .jmpPtr off _ => fits o off
  | .jmpRel8 _ => true
  | .testRm8Imm8 rm _ => rm.wf a
  | .notRm8 rm => rm.wf a
  | .negRm8 rm => rm.wf a
  | .mulRm8 rm => rm.wf a
  | .imulRm8 rm => rm.wf a
  | .divRm8 rm => rm.wf a
  | .idivRm8 rm => rm.wf a
  | .testRmvImmv rm imm => rm.wf a && fits o imm
  | .notRmv rm => rm.wf a
  | .negRmv rm => rm.wf a
  | .mulRmv rm => rm.wf a
  | .imulRmv rm => rm.wf a
  | .divRmv rm => rm.wf a
  | .idivRmv rm => rm.wf a
  | .incRm8 rm => rm.wf a
  | .decRm8 rm => rm.wf a
  | .incRmv rm => rm.wf a
  | .decRmv rm => rm.wf a
  | .callRmv rm => rm.wf a
  | .callMem m => m.wf a
  | .jmpRmv rm => rm.wf a
  | .jmpMem m => m.wf a
  | .pushRm rm => rm.wf a
  | .sldt rm => rm.wf a
  | .str rm => rm.wf a
  | .lldt rm => rm.wf a
  | .ltr rm => rm.wf a
  | .verr rm => rm.wf a
  | .verw rm => rm.wf a
  | .sgdt rm => rm.wf a
  | .sidt rm => rm.wf a
  | .lgdt m => m.wf a
  | .lidt m => m.wf a
  | .smsw rm => rm.wf a
  | .lmsw rm => rm.wf a
  | .lar rm _ => rm.wf a
  | .lsl rm _ => rm.wf a
  | .movR32Cr _ _ => true
  | .movR32Dr _ _ => true
  | .movCrR32 _ _ => true
  | .movDrR32 _ _ => true
  | .movR32Tr _ _ => true
  | .movTrR32 _ _ => true
  | .seto rm => rm.wf a
  | .setno rm => rm.wf a
  | .setb rm => rm.wf a
  | .setnb rm => rm.wf a
  | .setz rm => rm.wf a
  | .setnz rm => rm.wf a
  | .setbe rm => rm.wf a
  | .setnbe rm => rm.wf a
  | .sets rm => rm.wf a
  | .setns rm => rm.wf a
  | .setp rm => rm.wf a
  | .setnp rm => rm.wf a
  | .setl rm => rm.wf a
  | .setnl rm => rm.wf a
  | .setle rm => rm.wf a
  | .setnle rm => rm.wf a
  | .btRmvRv rm _ => rm.wf a
  | .shldImm8 rm _ _ => rm.wf a
  | .shldCl rm _ => rm.wf a
  | .btsRmvRv rm _ => rm.wf a
  | .shrdImm8 rm _ _ => rm.wf a
  | .shrdCl rm _ => rm.wf a
  | .imulRvRmv rm _ => rm.wf a
  | .lss m _ => m.wf a
  | .btrRmvRv rm _ => rm.wf a
  | .lfs m _ => m.wf a
  | .lgs m _ => m.wf a
  | .movzx8 rm _ => rm.wf a
  | .movzx16 rm _ => rm.wf a
  | .btRmvImm8 rm _ => rm.wf a
  | .btsRmvImm8 rm _ => rm.wf a
  | .btrRmvImm8 rm _ => rm.wf a
  | .btcRmvImm8 rm _ => rm.wf a
  | .btcRmvRv rm _ => rm.wf a
  | .bsf rm _ => rm.wf a
  | .bsr rm _ => rm.wf a
  | .movsx8 rm _ => rm.wf a
  | .movsx16 rm _ => rm.wf a
  | .segEs => true
  | .segCs => true
  | .segSs => true
  | .segDs => true
  | .segFs => true
  | .segGs => true
  | .opsize => true
  | .addrsize => true
  | .lock => true
  | .repne => true
  | .rep => true
  | .pushEs => true
  | .popEs => true
  | .pushCs => true
  | .pushSs => true
  | .popSs => true
  | .pushDs => true
  | .popDs => true
  | .daa => true
  | .das => true
  | .aaa => true
  | .aas => true
  | .aam => true
  | .aad => true
  | .pusha => true
  | .popa => true
  | .ins8 => true
  | .insv => true
  | .outs8 => true
  | .outsv => true
  | .nop => true
  | .cbw => true
  | .cwd => true
  | .wait => true
  | .pushf => true
  | .popf => true
  | .sahf => true
  | .lahf => true
  | .movs8 => true
  | .movsv => true
  | .cmps8 => true
  | .cmpsv => true
  | .stos8 => true
  | .stosv => true
  | .lods8 => true
  | .lodsv => true
  | .scas8 => true
  | .scasv => true
  | .retNear => true
  | .leave => true
  | .retFar => true
  | .int3 => true
  | .into => true
  | .iret => true
  | .xlat => true
  | .inAlDx => true
  | .inAxDx => true
  | .outDxAl => true
  | .outDxAx => true
  | .hlt => true
  | .cmc => true
  | .clc => true
  | .stc => true
  | .cli => true
  | .sti => true
  | .cld => true
  | .std => true
  | .clts => true
  | .pushFs => true
  | .popFs => true
  | .pushGs => true
  | .popGs => true

end Sys2Proof
end

