-- ==== Sys2Proof/Decode.lean ====
section
/-! DEFINITION. The decoder, total on any bytes, which rejects by name, and after it the encoder. The opcode maps are
laid out as Appendix A prints them: rows by the high four bits of the opcode, columns by the low four (rules R139 to
R142). Prefix bytes are decoded one at a time; the attributes they set are the machine's (rules R112, R118, R119). -/

namespace Sys2Proof

/-- Why a byte sequence is no instruction of this spec (rule R146). -/
inductive Reject where
  /-- An opcode or group cell that the maps leave empty (rules R140 to R142, R146). -/
  | reservedOpcode
  /-- AAM or AAD followed by a byte other than 0A (rule R146). -/
  | reservedSecondByte
  /-- sreg3 = 110 or 111, "do not use" (rule R126). -/
  | reservedSegmentRegister
  /-- MOV into CS (rule R206). -/
  | moveToCs
  /-- An eee value for which "do not use any other encoding" holds (rule R129). -/
  | reservedSpecialRegister
  /-- mod other than 11 in a move to or from a special register (rule R209). -/
  | registerOperandRequired
  /-- mod = 11 where the operand "may refer only to memory" (rule R134). -/
  | memoryOperandRequired
  /-- index = 100 with ss other than 00: "the effective address is undefined" (rule R132). -/
  | undefinedEffectiveAddress
  deriving DecidableEq, Repr

/-- How decoding stops without an instruction. -/
inductive DecodeError where
  /-- The bytes end before the instruction does. -/
  | short
  | rejected (why : Reject)
  deriving DecidableEq, Repr

/-- A reading from the front of a byte list: the value read and the bytes that remain, or why there is none. -/
abbrev Dec := Except DecodeError

/-! ### Field codes (rules R122 to R132) -/

/-- Register numbers (rules R20, R122). -/
def Reg.code : Reg → BitVec 3
  | .eax => 0 | .ecx => 1 | .edx => 2 | .ebx => 3 | .esp => 4 | .ebp => 5 | .esi => 6 | .edi => 7

/-- The register a reg, r/m, base or index field names (rules R20, R122). -/
def Reg.ofCode (c : BitVec 3) : Reg :=
  match c.toNat with
  | 0 => .eax | 1 => .ecx | 2 => .edx | 3 => .ebx | 4 => .esp | 5 => .ebp | 6 => .esi | _ => .edi

/-- The sreg3 codes (rule R126). -/
def SegReg.code : SegReg → BitVec 3
  | .es => 0 | .cs => 1 | .ss => 2 | .ds => 3 | .fs => 4 | .gs => 5

/-- The segment register an sreg3 field names; 110 and 111 name none (rule R126). -/
def SegReg.ofCode? (c : BitVec 3) : Option SegReg :=
  match c.toNat with
  | 0 => some .es | 1 => some .cs | 2 => some .ss | 3 => some .ds | 4 => some .fs | 5 => some .gs | _ => none

/-- The eee codes of the control registers (rule R129). -/
def CReg.code : CReg → BitVec 3
  | .cr0 => 0 | .cr2 => 2 | .cr3 => 3

/-- The control register an eee field names, if any (rule R129). -/
def CReg.ofCode? (c : BitVec 3) : Option CReg :=
  match c.toNat with
  | 0 => some .cr0 | 2 => some .cr2 | 3 => some .cr3 | _ => none

/-- The eee codes of the debug registers (rule R129). -/
def DReg.code : DReg → BitVec 3
  | .dr0 => 0 | .dr1 => 1 | .dr2 => 2 | .dr3 => 3 | .dr6 => 6 | .dr7 => 7

/-- The debug register an eee field names, if any (rule R129). -/
def DReg.ofCode? (c : BitVec 3) : Option DReg :=
  match c.toNat with
  | 0 => some .dr0 | 1 => some .dr1 | 2 => some .dr2 | 3 => some .dr3 | 6 => some .dr6 | 7 => some .dr7 | _ => none

/-- The eee codes of the test registers (rule R129). -/
def TReg.code : TReg → BitVec 3
  | .tr6 => 6 | .tr7 => 7

/-- The test register an eee field names, if any (rule R129). -/
def TReg.ofCode? (c : BitVec 3) : Option TReg :=
  match c.toNat with
  | 6 => some .tr6 | 7 => some .tr7 | _ => none

/-- The ss codes (rule R132). -/
def Scale.code : Scale → BitVec 2
  | .x1 => 0 | .x2 => 1 | .x4 => 2 | .x8 => 3

/-- The scale factor an ss field names (rule R132). -/
def Scale.ofCode (c : BitVec 2) : Scale :=
  match c.toNat with
  | 0 => .x1 | 1 => .x2 | 2 => .x4 | _ => .x8

/-- The r/m codes of the 16-bit register bases (rule R130). -/
def Base16.code : Base16 → BitVec 3
  | .bxsi => 0 | .bxdi => 1 | .bpsi => 2 | .bpdi => 3 | .si => 4 | .di => 5 | .bp => 6 | .bx => 7

/-- The register base an r/m field names with 16-bit addressing (rule R130). -/
def Base16.ofCode (c : BitVec 3) : Base16 :=
  match c.toNat with
  | 0 => .bxsi | 1 => .bxdi | 2 => .bpsi | 3 => .bpdi | 4 => .si | 5 => .di | 6 => .bp | _ => .bx

/-! ### Taking bytes off the front; multi-byte fields are little-endian (rules R73, R135, R136) -/

def take8 : List Byte → Dec (BitVec 8 × List Byte)
  | b :: rest => .ok (b, rest)
  | [] => .error .short

def take16 : List Byte → Dec (BitVec 16 × List Byte)
  | b0 :: b1 :: rest => .ok (b1 ++ b0, rest)
  | _ => .error .short

def take32 : List Byte → Dec (BitVec 32 × List Byte)
  | b0 :: b1 :: b2 :: b3 :: rest => .ok (b3 ++ b2 ++ b1 ++ b0, rest)
  | _ => .error .short

/-- A field of 2 or 4 bytes by a size attribute, zero-extended (rules R136 to R138). -/
def takeSized (sz : Size) (bs : List Byte) : Dec (BitVec 32 × List Byte) :=
  match sz with
  | .s16 => do
    let (v, rest) ← take16 bs
    .ok (v.setWidth 32, rest)
  | .s32 => take32 bs

/-! ### The addressing-mode bytes (rules R130 to R134) -/

/-- The three fields of a mod r/m byte: mod, reg, r/m (rule R110). -/
def splitModRM (b : Byte) : BitVec 2 × BitVec 3 × BitVec 3 :=
  (b.extractLsb' 6 2, b.extractLsb' 3 3, b.extractLsb' 0 3)

/-- The memory operand of 16-bit addressing, mod = 00, 01 or 10 (rule R130). -/
def decodeMem16 (md : BitVec 2) (rm : BitVec 3) (bs : List Byte) : Dec (Mem × List Byte) :=
  match md.toNat with
  | 0 =>
    if rm = 6 then do
      let (d, rest) ← take16 bs
      .ok (.direct16 d, rest)
    else .ok (.base16 (.ofCode rm) .none, bs)
  | 1 => do
    let (d, rest) ← take8 bs
    .ok (.base16 (.ofCode rm) (.d8 d), rest)
  | _ => do
    let (d, rest) ← take16 bs
    .ok (.base16 (.ofCode rm) (.d16 d), rest)

/-- The displacement that mod selects with 32-bit addressing (rules R131, R133). -/
def decodeDisp32 (md : BitVec 2) (bs : List Byte) : Dec (Disp32 × List Byte) :=
  match md.toNat with
  | 0 => .ok (.none, bs)
  | 1 => do
    let (d, rest) ← take8 bs
    .ok (.d8 d, rest)
  | _ => do
    let (d, rest) ← take32 bs
    .ok (.d32 d, rest)

/-- The index field of the s-i-b byte: 100 is "no index register" and then ss must be 00 (rule R132). -/
def decodeIndex (ss : BitVec 2) (index : BitVec 3) : Except DecodeError (Option Reg) :=
  if index = 4 then
    if ss = 0 then .ok none else .error (.rejected .undefinedEffectiveAddress)
  else .ok (some (.ofCode index))

/-- The memory operand with an s-i-b byte (rules R132, R133). -/
def decodeSib (md : BitVec 2) : List Byte → Dec (Mem × List Byte)
  | [] => .error .short
  | b :: bs => do
    let (ss, index, base) := splitModRM b
    let idx ← decodeIndex ss index
    if md = 0 ∧ base = 5 then
      let (d, rest) ← take32 bs
      .ok (.sibNoBase (.ofCode ss) idx d, rest)
    else
      let (d, rest) ← decodeDisp32 md bs
      .ok (.sib (.ofCode ss) idx (.ofCode base) d, rest)

/-- The memory operand of 32-bit addressing, mod = 00, 01 or 10 (rules R131, R133). -/
def decodeMem32 (md : BitVec 2) (rm : BitVec 3) (bs : List Byte) : Dec (Mem × List Byte) :=
  if rm = 4 then decodeSib md bs
  else if md = 0 ∧ rm = 5 then do
    let (d, rest) ← take32 bs
    .ok (.direct32 d, rest)
  else do
    let (d, rest) ← decodeDisp32 md bs
    .ok (.base32 (.ofCode rm) d, rest)

/-- The mod r/m operand and the reg field (rules R130 to R134). -/
def decodeRM (a : Size) : List Byte → Dec ((RM × BitVec 3) × List Byte)
  | [] => .error .short
  | b :: bs =>
    let (md, reg, rm) := splitModRM b
    if md = 3 then .ok ((.reg (.ofCode rm), reg), bs)
    else do
      let (m, rest) ← match a with
        | .s16 => decodeMem16 md rm bs
        | .s32 => decodeMem32 md rm bs
      .ok ((.mem m, reg), rest)

/-! ### The opcode maps (rules R139 to R142) -/

/-- What follows an opcode byte, and the constructor the fields go to; named by the operand codes of rules R136 to R145. -/
inductive Form where
  | reserved
  | fixed (i : Instr)
  | fixedByte (b : Byte) (i : Instr)
  | rm (f : RM → Instr)
  | mem (f : Mem → Instr)
  | rmReg (f : RM → Reg → Instr)
  | memReg (f : Mem → Reg → Instr)
  | rmImm8 (f : RM → BitVec 8 → Instr)
  | rmImmV (f : RM → BitVec 32 → Instr)
  | rmRegImm8 (f : RM → Reg → BitVec 8 → Instr)
  | rmRegImmV (f : RM → Reg → BitVec 32 → Instr)
  | rmSreg (f : RM → SegReg → Instr)
  | sregRm (f : RM → SegReg → Instr)
  | imm8 (f : BitVec 8 → Instr)
  | imm16 (f : BitVec 16 → Instr)
  | immV (f : BitVec 32 → Instr)
  | imm16imm8 (f : BitVec 16 → BitVec 8 → Instr)
  | ptr (f : BitVec 32 → BitVec 16 → Instr)
  | moffs (f : BitVec 32 → Instr)
  | rel8 (f : BitVec 8 → Instr)
  | relV (f : BitVec 32 → Instr)
  | creg (f : CReg → Reg → Instr)
  | dreg (f : DReg → Reg → Instr)
  | treg (f : TReg → Reg → Instr)
  | esc (f : BitVec 3 → RM → Instr)

/-- A cell of an opcode map. -/
inductive Entry where
  | form (f : Form)
  /-- Bits 5 to 3 of the mod r/m byte select the instruction (rule R142). -/
  | group (fs : List Form)
  /-- 0F, the two-byte escape. -/
  | escape
  /-- A prefix byte (rule R113). -/
  | pfx (i : Instr)

/-- A "group" of which only /0 is defined (rule R146: POP r/m, MOV r/m,imm, SETcc). -/
def onlyZero (f : Form) : List Form := [f]

/-- The group of opcode 80 by the nnn field (rule R142). -/
def group1Rm8Imm8 : List Form :=
  [.rmImm8 .addRm8Imm8, .rmImm8 .orRm8Imm8, .rmImm8 .adcRm8Imm8, .rmImm8 .sbbRm8Imm8,
   .rmImm8 .andRm8Imm8, .rmImm8 .subRm8Imm8, .rmImm8 .xorRm8Imm8, .rmImm8 .cmpRm8Imm8]

/-- The group of opcode 81 by the nnn field (rule R142). -/
def group1RmvImmv : List Form :=
  [.rmImmV .addRmvImmv, .rmImmV .orRmvImmv, .rmImmV .adcRmvImmv, .rmImmV .sbbRmvImmv,
   .rmImmV .andRmvImmv, .rmImmV .subRmvImmv, .rmImmV .xorRmvImmv, .rmImmV .cmpRmvImmv]

/-- The group of opcode 83 by the nnn field (rule R142). -/
def group1RmvImm8 : List Form :=
  [.rmImm8 .addRmvImm8, .rmImm8 .orRmvImm8, .rmImm8 .adcRmvImm8, .rmImm8 .sbbRmvImm8,
   .rmImm8 .andRmvImm8, .rmImm8 .subRmvImm8, .rmImm8 .xorRmvImm8, .rmImm8 .cmpRmvImm8]

/-- The group of opcode C0 by the nnn field (rule R142). -/
def group2Rm8Imm8 : List Form :=
  [.rmImm8 (fun rm n => .rolRm8 rm (.imm8 n)), .rmImm8 (fun rm n => .rorRm8 rm (.imm8 n)), .rmImm8 (fun rm n => .rclRm8 rm (.imm8 n)), .rmImm8 (fun rm n => .rcrRm8 rm (.imm8 n)),
   .rmImm8 (fun rm n => .shlRm8 rm (.imm8 n)), .rmImm8 (fun rm n => .shrRm8 rm (.imm8 n)), .reserved, .rmImm8 (fun rm n => .sarRm8 rm (.imm8 n))]

/-- The group of opcode C1 by the nnn field (rule R142). -/
def group2RmvImm8 : List Form :=
  [.rmImm8 (fun rm n => .rolRmv rm (.imm8 n)), .rmImm8 (fun rm n => .rorRmv rm (.imm8 n)), .rmImm8 (fun rm n => .rclRmv rm (.imm8 n)), .rmImm8 (fun rm n => .rcrRmv rm (.imm8 n)),
   .rmImm8 (fun rm n => .shlRmv rm (.imm8 n)), .rmImm8 (fun rm n => .shrRmv rm (.imm8 n)), .reserved, .rmImm8 (fun rm n => .sarRmv rm (.imm8 n))]

/-- The group of opcode D0 by the nnn field (rule R142). -/
def group2Rm8One : List Form :=
  [.rm (fun rm => .rolRm8 rm .one), .rm (fun rm => .rorRm8 rm .one), .rm (fun rm => .rclRm8 rm .one), .rm (fun rm => .rcrRm8 rm .one),
   .rm (fun rm => .shlRm8 rm .one), .rm (fun rm => .shrRm8 rm .one), .reserved, .rm (fun rm => .sarRm8 rm .one)]

/-- The group of opcode D1 by the nnn field (rule R142). -/
def group2RmvOne : List Form :=
  [.rm (fun rm => .rolRmv rm .one), .rm (fun rm => .rorRmv rm .one), .rm (fun rm => .rclRmv rm .one), .rm (fun rm => .rcrRmv rm .one),
   .rm (fun rm => .shlRmv rm .one), .rm (fun rm => .shrRmv rm .one), .reserved, .rm (fun rm => .sarRmv rm .one)]

/-- The group of opcode D2 by the nnn field (rule R142). -/
def group2Rm8Cl : List Form :=
  [.rm (fun rm => .rolRm8 rm .cl), .rm (fun rm => .rorRm8 rm .cl), .rm (fun rm => .rclRm8 rm .cl), .rm (fun rm => .rcrRm8 rm .cl),
   .rm (fun rm => .shlRm8 rm .cl), .rm (fun rm => .shrRm8 rm .cl), .reserved, .rm (fun rm => .sarRm8 rm .cl)]

/-- The group of opcode D3 by the nnn field (rule R142). -/
def group2RmvCl : List Form :=
  [.rm (fun rm => .rolRmv rm .cl), .rm (fun rm => .rorRmv rm .cl), .rm (fun rm => .rclRmv rm .cl), .rm (fun rm => .rcrRmv rm .cl),
   .rm (fun rm => .shlRmv rm .cl), .rm (fun rm => .shrRmv rm .cl), .reserved, .rm (fun rm => .sarRmv rm .cl)]

/-- The group of opcode F6 by the nnn field (rule R142). -/
def group3Rm8 : List Form :=
  [.rmImm8 .testRm8Imm8, .reserved, .rm .notRm8, .rm .negRm8,
   .rm .mulRm8, .rm .imulRm8, .rm .divRm8, .rm .idivRm8]

/-- The group of opcode F7 by the nnn field (rule R142). -/
def group3Rmv : List Form :=
  [.rmImmV .testRmvImmv, .reserved, .rm .notRmv, .rm .negRmv,
   .rm .mulRmv, .rm .imulRmv, .rm .divRmv, .rm .idivRmv]

/-- The group of opcode FE by the nnn field (rule R142). -/
def group4 : List Form :=
  [.rm .incRm8, .rm .decRm8, .reserved, .reserved,
   .reserved, .reserved, .reserved, .reserved]

/-- The group of opcode FF by the nnn field (rule R142). -/
def group5 : List Form :=
  [.rm .incRmv, .rm .decRmv, .rm .callRmv, .mem .callMem,
   .rm .jmpRmv, .mem .jmpMem, .rm .pushRm, .reserved]

/-- The group of opcode 0F 00 by the nnn field (rule R142). -/
def group6 : List Form :=
  [.rm .sldt, .rm .str, .rm .lldt, .rm .ltr,
   .rm .verr, .rm .verw, .reserved, .reserved]

/-- The group of opcode 0F 01 by the nnn field (rule R142). -/
def group7 : List Form :=
  [.rm .sgdt, .rm .sidt, .mem .lgdt, .mem .lidt,
   .rm .smsw, .reserved, .rm .lmsw, .reserved]

/-- The group of opcode 0F BA by the nnn field (rule R142). -/
def group8 : List Form :=
  [.reserved, .reserved, .reserved, .reserved,
   .rmImm8 .btRmvImm8, .rmImm8 .btsRmvImm8, .rmImm8 .btrRmvImm8, .rmImm8 .btcRmvImm8]

/-- Row 0 of the one-byte opcode map (rule R140). -/
def oneByteRow0 : List Entry :=
  [
    .form (.rmReg .addRm8R8), .form (.rmReg .addRmvRv),
    .form (.rmReg .addR8Rm8), .form (.rmReg .addRvRmv),
    .form (.imm8 .addAlImm8), .form (.immV .addAxImmv),
    .form (.fixed .pushEs), .form (.fixed .popEs),
    .form (.rmReg .orRm8R8), .form (.rmReg .orRmvRv),
    .form (.rmReg .orR8Rm8), .form (.rmReg .orRvRmv),
    .form (.imm8 .orAlImm8), .form (.immV .orAxImmv),
    .form (.fixed .pushCs), .escape ]

/-- Row 1 of the one-byte opcode map (rule R140). -/
def oneByteRow1 : List Entry :=
  [
    .form (.rmReg .adcRm8R8), .form (.rmReg .adcRmvRv),
    .form (.rmReg .adcR8Rm8), .form (.rmReg .adcRvRmv),
    .form (.imm8 .adcAlImm8), .form (.immV .adcAxImmv),
    .form (.fixed .pushSs), .form (.fixed .popSs),
    .form (.rmReg .sbbRm8R8), .form (.rmReg .sbbRmvRv),
    .form (.rmReg .sbbR8Rm8), .form (.rmReg .sbbRvRmv),
    .form (.imm8 .sbbAlImm8), .form (.immV .sbbAxImmv),
    .form (.fixed .pushDs), .form (.fixed .popDs) ]

/-- Row 2 of the one-byte opcode map (rule R140). -/
def oneByteRow2 : List Entry :=
  [
    .form (.rmReg .andRm8R8), .form (.rmReg .andRmvRv),
    .form (.rmReg .andR8Rm8), .form (.rmReg .andRvRmv),
    .form (.imm8 .andAlImm8), .form (.immV .andAxImmv),
    .pfx .segEs, .form (.fixed .daa),
    .form (.rmReg .subRm8R8), .form (.rmReg .subRmvRv),
    .form (.rmReg .subR8Rm8), .form (.rmReg .subRvRmv),
    .form (.imm8 .subAlImm8), .form (.immV .subAxImmv),
    .pfx .segCs, .form (.fixed .das) ]

/-- Row 3 of the one-byte opcode map (rule R140). -/
def oneByteRow3 : List Entry :=
  [
    .form (.rmReg .xorRm8R8), .form (.rmReg .xorRmvRv),
    .form (.rmReg .xorR8Rm8), .form (.rmReg .xorRvRmv),
    .form (.imm8 .xorAlImm8), .form (.immV .xorAxImmv),
    .pfx .segSs, .form (.fixed .aaa),
    .form (.rmReg .cmpRm8R8), .form (.rmReg .cmpRmvRv),
    .form (.rmReg .cmpR8Rm8), .form (.rmReg .cmpRvRmv),
    .form (.imm8 .cmpAlImm8), .form (.immV .cmpAxImmv),
    .pfx .segDs, .form (.fixed .aas) ]

/-- Row 4 of the one-byte opcode map (rule R140). -/
def oneByteRow4 : List Entry :=
  [
    .form (.fixed (.incReg .eax)), .form (.fixed (.incReg .ecx)),
    .form (.fixed (.incReg .edx)), .form (.fixed (.incReg .ebx)),
    .form (.fixed (.incReg .esp)), .form (.fixed (.incReg .ebp)),
    .form (.fixed (.incReg .esi)), .form (.fixed (.incReg .edi)),
    .form (.fixed (.decReg .eax)), .form (.fixed (.decReg .ecx)),
    .form (.fixed (.decReg .edx)), .form (.fixed (.decReg .ebx)),
    .form (.fixed (.decReg .esp)), .form (.fixed (.decReg .ebp)),
    .form (.fixed (.decReg .esi)), .form (.fixed (.decReg .edi)) ]

/-- Row 5 of the one-byte opcode map (rule R140). -/
def oneByteRow5 : List Entry :=
  [
    .form (.fixed (.pushReg .eax)), .form (.fixed (.pushReg .ecx)),
    .form (.fixed (.pushReg .edx)), .form (.fixed (.pushReg .ebx)),
    .form (.fixed (.pushReg .esp)), .form (.fixed (.pushReg .ebp)),
    .form (.fixed (.pushReg .esi)), .form (.fixed (.pushReg .edi)),
    .form (.fixed (.popReg .eax)), .form (.fixed (.popReg .ecx)),
    .form (.fixed (.popReg .edx)), .form (.fixed (.popReg .ebx)),
    .form (.fixed (.popReg .esp)), .form (.fixed (.popReg .ebp)),
    .form (.fixed (.popReg .esi)), .form (.fixed (.popReg .edi)) ]

/-- Row 6 of the one-byte opcode map (rule R140). -/
def oneByteRow6 : List Entry :=
  [
    .form (.fixed .pusha), .form (.fixed .popa),
    .form (.memReg .bound), .form (.rmReg .arpl),
    .pfx .segFs, .pfx .segGs,
    .pfx .opsize, .pfx .addrsize,
    .form (.immV .pushImmv), .form (.rmRegImmV .imulRvRmvImmv),
    .form (.imm8 .pushImm8), .form (.rmRegImm8 .imulRvRmvImm8),
    .form (.fixed .ins8), .form (.fixed .insv),
    .form (.fixed .outs8), .form (.fixed .outsv) ]

/-- Row 7 of the one-byte opcode map (rule R140). -/
def oneByteRow7 : List Entry :=
  [
    .form (.rel8 (fun rel => .jo (.short rel))), .form (.rel8 (fun rel => .jno (.short rel))),
    .form (.rel8 (fun rel => .jb (.short rel))), .form (.rel8 (fun rel => .jnb (.short rel))),
    .form (.rel8 (fun rel => .jz (.short rel))), .form (.rel8 (fun rel => .jnz (.short rel))),
    .form (.rel8 (fun rel => .jbe (.short rel))), .form (.rel8 (fun rel => .jnbe (.short rel))),
    .form (.rel8 (fun rel => .js (.short rel))), .form (.rel8 (fun rel => .jns (.short rel))),
    .form (.rel8 (fun rel => .jp (.short rel))), .form (.rel8 (fun rel => .jnp (.short rel))),
    .form (.rel8 (fun rel => .jl (.short rel))), .form (.rel8 (fun rel => .jnl (.short rel))),
    .form (.rel8 (fun rel => .jle (.short rel))), .form (.rel8 (fun rel => .jnle (.short rel))) ]

/-- Row 8 of the one-byte opcode map (rule R140). -/
def oneByteRow8 : List Entry :=
  [
    .group group1Rm8Imm8, .group group1RmvImmv,
    .form .reserved, .group group1RmvImm8,
    .form (.rmReg .testRm8R8), .form (.rmReg .testRmvRv),
    .form (.rmReg .xchgRm8R8), .form (.rmReg .xchgRmvRv),
    .form (.rmReg .movRm8R8), .form (.rmReg .movRmvRv),
    .form (.rmReg .movR8Rm8), .form (.rmReg .movRvRmv),
    .form (.rmSreg .movRm16Sreg), .form (.memReg .lea),
    .form (.sregRm .movSregRm16), .group (onlyZero (.rm .popRm)) ]

/-- Row 9 of the one-byte opcode map (rule R140). -/
def oneByteRow9 : List Entry :=
  [
    .form (.fixed .nop), .form (.fixed (.xchgAxReg .ecx)),
    .form (.fixed (.xchgAxReg .edx)), .form (.fixed (.xchgAxReg .ebx)),
    .form (.fixed (.xchgAxReg .esp)), .form (.fixed (.xchgAxReg .ebp)),
    .form (.fixed (.xchgAxReg .esi)), .form (.fixed (.xchgAxReg .edi)),
    .form (.fixed .cbw), .form (.fixed .cwd),
    .form (.ptr .callPtr), .form (.fixed .wait),
    .form (.fixed .pushf), .form (.fixed .popf),
    .form (.fixed .sahf), .form (.fixed .lahf) ]

/-- Row A of the one-byte opcode map (rule R140). -/
def oneByteRowA : List Entry :=
  [
    .form (.moffs .movAlMoffs), .form (.moffs .movAxMoffs),
    .form (.moffs .movMoffsAl), .form (.moffs .movMoffsAx),
    .form (.fixed .movs8), .form (.fixed .movsv),
    .form (.fixed .cmps8), .form (.fixed .cmpsv),
    .form (.imm8 .testAlImm8), .form (.immV .testAxImmv),
    .form (.fixed .stos8), .form (.fixed .stosv),
    .form (.fixed .lods8), .form (.fixed .lodsv),
    .form (.fixed .scas8), .form (.fixed .scasv) ]

/-- Row B of the one-byte opcode map (rule R140). -/
def oneByteRowB : List Entry :=
  [
    .form (.imm8 (.movReg8Imm8 .eax)), .form (.imm8 (.movReg8Imm8 .ecx)),
    .form (.imm8 (.movReg8Imm8 .edx)), .form (.imm8 (.movReg8Imm8 .ebx)),
    .form (.imm8 (.movReg8Imm8 .esp)), .form (.imm8 (.movReg8Imm8 .ebp)),
    .form (.imm8 (.movReg8Imm8 .esi)), .form (.imm8 (.movReg8Imm8 .edi)),
    .form (.immV (.movRegvImmv .eax)), .form (.immV (.movRegvImmv .ecx)),
    .form (.immV (.movRegvImmv .edx)), .form (.immV (.movRegvImmv .ebx)),
    .form (.immV (.movRegvImmv .esp)), .form (.immV (.movRegvImmv .ebp)),
    .form (.immV (.movRegvImmv .esi)), .form (.immV (.movRegvImmv .edi)) ]

/-- Row C of the one-byte opcode map (rule R140). -/
def oneByteRowC : List Entry :=
  [
    .group group2Rm8Imm8, .group group2RmvImm8,
    .form (.imm16 .retNearImm), .form (.fixed .retNear),
    .form (.memReg .les), .form (.memReg .lds),
    .group (onlyZero (.rmImm8 .movRm8Imm8)), .group (onlyZero (.rmImmV .movRmvImmv)),
    .form (.imm16imm8 .enter), .form (.fixed .leave),
    .form (.imm16 .retFarImm), .form (.fixed .retFar),
    .form (.fixed .int3), .form (.imm8 .intImm8),
    .form (.fixed .into), .form (.fixed .iret) ]

/-- Row D of the one-byte opcode map (rule R140). -/
def oneByteRowD : List Entry :=
  [
    .group group2Rm8One, .group group2RmvOne,
    .group group2Rm8Cl, .group group2RmvCl,
    .form (.fixedByte 0x0A .aam), .form (.fixedByte 0x0A .aad),
    .form .reserved, .form (.fixed .xlat),
    .form (.esc (.esc 0)), .form (.esc (.esc 1)),
    .form (.esc (.esc 2)), .form (.esc (.esc 3)),
    .form (.esc (.esc 4)), .form (.esc (.esc 5)),
    .form (.esc (.esc 6)), .form (.esc (.esc 7)) ]

/-- Row E of the one-byte opcode map (rule R140). -/
def oneByteRowE : List Entry :=
  [
    .form (.rel8 .loopne), .form (.rel8 .loope),
    .form (.rel8 .loop), .form (.rel8 .jcxz),
    .form (.imm8 .inAlImm8), .form (.imm8 .inAxImm8),
    .form (.imm8 .outImm8Al), .form (.imm8 .outImm8Ax),
    .form (.relV .callRel), .form (.relV .jmpRel),
    .form (.ptr .jmpPtr), .form (.rel8 .jmpRel8),
    .form (.fixed .inAlDx), .form (.fixed .inAxDx),
    .form (.fixed .outDxAl), .form (.fixed .outDxAx) ]

/-- Row F of the one-byte opcode map (rule R140). -/
def oneByteRowF : List Entry :=
  [
    .pfx .lock, .form .reserved,
    .pfx .repne, .pfx .rep,
    .form (.fixed .hlt), .form (.fixed .cmc),
    .group group3Rm8, .group group3Rmv,
    .form (.fixed .clc), .form (.fixed .stc),
    .form (.fixed .cli), .form (.fixed .sti),
    .form (.fixed .cld), .form (.fixed .std),
    .group group4, .group group5 ]

/-- The one-byte opcode map: the high four bits of the opcode select a row, the low four a column (rules R139, R140). -/
def oneByteMap : List (List Entry) :=
  [oneByteRow0, oneByteRow1, oneByteRow2, oneByteRow3, oneByteRow4, oneByteRow5, oneByteRow6, oneByteRow7, oneByteRow8, oneByteRow9, oneByteRowA, oneByteRowB, oneByteRowC, oneByteRowD, oneByteRowE, oneByteRowF]

/-- Row 0 of the two-byte opcode map (rule R141). -/
def twoByteRow0 : List Entry :=
  [
    .group group6, .group group7,
    .form (.rmReg .lar), .form (.rmReg .lsl),
    .form .reserved, .form .reserved,
    .form (.fixed .clts), .form .reserved,
    .form .reserved, .form .reserved,
    .form .reserved, .form .reserved,
    .form .reserved, .form .reserved,
    .form .reserved, .form .reserved ]

/-- Row 2 of the two-byte opcode map (rule R141). -/
def twoByteRow2 : List Entry :=
  [
    .form (.creg .movR32Cr), .form (.dreg .movR32Dr),
    .form (.creg .movCrR32), .form (.dreg .movDrR32),
    .form (.treg .movR32Tr), .form .reserved,
    .form (.treg .movTrR32), .form .reserved,
    .form .reserved, .form .reserved,
    .form .reserved, .form .reserved,
    .form .reserved, .form .reserved,
    .form .reserved, .form .reserved ]

/-- Row 8 of the two-byte opcode map (rule R141). -/
def twoByteRow8 : List Entry :=
  [
    .form (.relV (fun rel => .jo (.near rel))), .form (.relV (fun rel => .jno (.near rel))),
    .form (.relV (fun rel => .jb (.near rel))), .form (.relV (fun rel => .jnb (.near rel))),
    .form (.relV (fun rel => .jz (.near rel))), .form (.relV (fun rel => .jnz (.near rel))),
    .form (.relV (fun rel => .jbe (.near rel))), .form (.relV (fun rel => .jnbe (.near rel))),
    .form (.relV (fun rel => .js (.near rel))), .form (.relV (fun rel => .jns (.near rel))),
    .form (.relV (fun rel => .jp (.near rel))), .form (.relV (fun rel => .jnp (.near rel))),
    .form (.relV (fun rel => .jl (.near rel))), .form (.relV (fun rel => .jnl (.near rel))),
    .form (.relV (fun rel => .jle (.near rel))), .form (.relV (fun rel => .jnle (.near rel))) ]

/-- Row 9 of the two-byte opcode map (rule R141). -/
def twoByteRow9 : List Entry :=
  [
    .group (onlyZero (.rm .seto)), .group (onlyZero (.rm .setno)),
    .group (onlyZero (.rm .setb)), .group (onlyZero (.rm .setnb)),
    .group (onlyZero (.rm .setz)), .group (onlyZero (.rm .setnz)),
    .group (onlyZero (.rm .setbe)), .group (onlyZero (.rm .setnbe)),
    .group (onlyZero (.rm .sets)), .group (onlyZero (.rm .setns)),
    .group (onlyZero (.rm .setp)), .group (onlyZero (.rm .setnp)),
    .group (onlyZero (.rm .setl)), .group (onlyZero (.rm .setnl)),
    .group (onlyZero (.rm .setle)), .group (onlyZero (.rm .setnle)) ]

/-- Row A of the two-byte opcode map (rule R141). -/
def twoByteRowA : List Entry :=
  [
    .form (.fixed .pushFs), .form (.fixed .popFs),
    .form .reserved, .form (.rmReg .btRmvRv),
    .form (.rmRegImm8 .shldImm8), .form (.rmReg .shldCl),
    .form .reserved, .form .reserved,
    .form (.fixed .pushGs), .form (.fixed .popGs),
    .form .reserved, .form (.rmReg .btsRmvRv),
    .form (.rmRegImm8 .shrdImm8), .form (.rmReg .shrdCl),
    .form .reserved, .form (.rmReg .imulRvRmv) ]

/-- Row B of the two-byte opcode map (rule R141). -/
def twoByteRowB : List Entry :=
  [
    .form .reserved, .form .reserved,
    .form (.memReg .lss), .form (.rmReg .btrRmvRv),
    .form (.memReg .lfs), .form (.memReg .lgs),
    .form (.rmReg .movzx8), .form (.rmReg .movzx16),
    .form .reserved, .form .reserved,
    .group group8, .form (.rmReg .btcRmvRv),
    .form (.rmReg .bsf), .form (.rmReg .bsr),
    .form (.rmReg .movsx8), .form (.rmReg .movsx16) ]

/-- A row of the two-byte map whose cells are all empty (rule R146). -/
def emptyRow : List Entry := []

/-- The two-byte opcode map, indexed by the byte after 0F (rules R110, R141). -/
def twoByteMap : List (List Entry) :=
  [twoByteRow0, emptyRow, twoByteRow2, emptyRow, emptyRow, emptyRow, emptyRow, emptyRow, twoByteRow8, twoByteRow9, twoByteRowA, twoByteRowB, emptyRow, emptyRow, emptyRow, emptyRow]

/-- The cell of an opcode map that a byte selects (rule R139). A missing cell is a reserved encoding (rule R146). -/
def mapCell (table : List (List Entry)) (b : Byte) : Entry :=
  (table.getD (b.toNat / 16) []).getD (b.toNat % 16) (.form .reserved)

/-- The instruction of a form, read from the bytes after the opcode (rules R112, R134 to R138). DESIGN CHOICE (log entry
28): rule R611 makes fetch and decode one check and gives no order within it. For MOV Sreg with a reserved sreg3 or CS
(8C, 8E) and for 0F 20 to 26 with mod other than 11, the s-i-b byte and the displacement are read before the encoding is
rejected (rules R146, R209), so that a fetch fault of one of them comes first. Every other reserved encoding is rejected
when the byte that decides it is read. -/
def decodeForm (o a : Size) (f : Form) (bs : List Byte) : Dec (Instr × List Byte) :=
  match f with
  | .reserved => .error (.rejected .reservedOpcode)
  | .fixed i => .ok (i, bs)
  | .fixedByte b i => do
    let (x, rest) ← take8 bs
    if x = b then .ok (i, rest) else .error (.rejected .reservedSecondByte)
  | .rm f => do
    let ((rm, _), rest) ← decodeRM a bs
    .ok (f rm, rest)
  | .mem f => do
    let ((rm, _), rest) ← decodeRM a bs
    match rm with
    | .mem m => .ok (f m, rest)
    | .reg _ => .error (.rejected .memoryOperandRequired)
  | .rmReg f => do
    let ((rm, reg), rest) ← decodeRM a bs
    .ok (f rm (.ofCode reg), rest)
  | .memReg f => do
    let ((rm, reg), rest) ← decodeRM a bs
    match rm with
    | .mem m => .ok (f m (.ofCode reg), rest)
    | .reg _ => .error (.rejected .memoryOperandRequired)
  | .rmImm8 f => do
    let ((rm, _), rest) ← decodeRM a bs
    let (v, rest) ← take8 rest
    .ok (f rm v, rest)
  | .rmImmV f => do
    let ((rm, _), rest) ← decodeRM a bs
    let (v, rest) ← takeSized o rest
    .ok (f rm v, rest)
  | .rmRegImm8 f => do
    let ((rm, reg), rest) ← decodeRM a bs
    let (v, rest) ← take8 rest
    .ok (f rm (.ofCode reg) v, rest)
  | .rmRegImmV f => do
    let ((rm, reg), rest) ← decodeRM a bs
    let (v, rest) ← takeSized o rest
    .ok (f rm (.ofCode reg) v, rest)
  | .rmSreg f => do
    let ((rm, reg), rest) ← decodeRM a bs
    match SegReg.ofCode? reg with
    | some sr => .ok (f rm sr, rest)
    | none => .error (.rejected .reservedSegmentRegister)
  | .sregRm f => do
    let ((rm, reg), rest) ← decodeRM a bs
    match SegReg.ofCode? reg with
    | some .cs => .error (.rejected .moveToCs)
    | some sr => .ok (f rm sr, rest)
    | none => .error (.rejected .reservedSegmentRegister)
  | .imm8 f => do
    let (v, rest) ← take8 bs
    .ok (f v, rest)
  | .imm16 f => do
    let (v, rest) ← take16 bs
    .ok (f v, rest)
  | .immV f => do
    let (v, rest) ← takeSized o bs
    .ok (f v, rest)
  | .imm16imm8 f => do
    let (v, rest) ← take16 bs
    let (l, rest) ← take8 rest
    .ok (f v l, rest)
  | .ptr f => do
    let (off, rest) ← takeSized o bs
    let (sel, rest) ← take16 rest
    .ok (f off sel, rest)
  | .moffs f => do
    let (v, rest) ← takeSized a bs
    .ok (f v, rest)
  | .rel8 f => do
    let (v, rest) ← take8 bs
    .ok (f v, rest)
  | .relV f => do
    let (v, rest) ← takeSized o bs
    .ok (f v, rest)
  | .creg f => do
    let ((rm, eee), rest) ← decodeRM a bs
    match rm, CReg.ofCode? eee with
    | .reg r, some c => .ok (f c r, rest)
    | .reg _, none => .error (.rejected .reservedSpecialRegister)
    | .mem _, _ => .error (.rejected .registerOperandRequired)
  | .dreg f => do
    let ((rm, eee), rest) ← decodeRM a bs
    match rm, DReg.ofCode? eee with
    | .reg r, some d => .ok (f d r, rest)
    | .reg _, none => .error (.rejected .reservedSpecialRegister)
    | .mem _, _ => .error (.rejected .registerOperandRequired)
  | .treg f => do
    let ((rm, eee), rest) ← decodeRM a bs
    match rm, TReg.ofCode? eee with
    | .reg r, some t => .ok (f t r, rest)
    | .reg _, none => .error (.rejected .reservedSpecialRegister)
    | .mem _, _ => .error (.rejected .registerOperandRequired)
  | .esc f => do
    let ((rm, ext), rest) ← decodeRM a bs
    .ok (f ext rm, rest)

/-- The instruction of a group: the nnn field of the mod r/m byte, still at the front of the bytes, selects it
(rule R142). -/
def decodeGroup (o a : Size) (fs : List Form) : List Byte → Dec (Instr × List Byte)
  | [] => .error .short
  | b :: bs => decodeForm o a (fs.getD (splitModRM b).2.1.toNat .reserved) (b :: bs)

/-- The instruction of a cell of the two-byte map. -/
def decodeCell (o a : Size) (e : Entry) (bs : List Byte) : Dec (Instr × List Byte) :=
  match e with
  | .form f => decodeForm o a f bs
  | .group fs => decodeGroup o a fs bs
  | .escape => .error (.rejected .reservedOpcode)
  | .pfx i => .ok (i, bs)

/-- The instruction at the front of the bytes under operand size `o` and address size `a`, with the bytes that remain
(rule R112). A prefix byte is read as the prefix's own term. -/
def decode (o a : Size) : List Byte → Dec (Instr × List Byte)
  | [] => .error .short
  | b :: bs =>
    match mapCell oneByteMap b with
    | .escape =>
      match bs with
      | [] => .error .short
      | b2 :: bs2 => decodeCell o a (mapCell twoByteMap b2) bs2
    | e => decodeCell o a e bs

/-- The prefix a byte is, if it is one (rule R113). -/
def decodePrefix (b : Byte) : Option Instr :=
  match mapCell oneByteMap b with
  | .pfx i => some i
  | _ => none

/-! ### The encoder -/

/-- A 16-bit field, least significant byte first (rule R73). -/
def enc16 (v : BitVec 16) : List Byte := [v.extractLsb' 0 8, v.extractLsb' 8 8]

/-- A 32-bit field, least significant byte first (rule R73). -/
def enc32 (v : BitVec 32) : List Byte :=
  [v.extractLsb' 0 8, v.extractLsb' 8 8, v.extractLsb' 16 8, v.extractLsb' 24 8]

/-- A field of 2 or 4 bytes by a size attribute (rules R136 to R138). -/
def encSized (sz : Size) (v : BitVec 32) : List Byte :=
  match sz with
  | .s16 => enc16 (v.setWidth 16)
  | .s32 => enc32 v

/-- A mod r/m or s-i-b byte from its three fields (rule R110). -/
def modRM (md : BitVec 2) (reg rm : BitVec 3) : Byte := md ++ reg ++ rm

/-- The mod value and the displacement bytes of a 16-bit displacement (rule R130). -/
def encDisp16 : Disp16 → BitVec 2 × List Byte
  | .none => (0, [])
  | .d8 d => (1, [d])
  | .d16 d => (2, enc16 d)

/-- The mod value and the displacement bytes of a 32-bit displacement (rule R131). -/
def encDisp32 : Disp32 → BitVec 2 × List Byte
  | .none => (0, [])
  | .d8 d => (1, [d])
  | .d32 d => (2, enc32 d)

/-- The index field (rule R132). -/
def encIndex : Option Reg → BitVec 3
  | none => 4
  | some r => r.code

/-- The mod r/m byte, the s-i-b byte if any, and the displacement of an operand; `reg` is the reg field
(rules R130 to R135). -/
def encRM (reg : BitVec 3) : RM → List Byte
  | .reg r => [modRM 3 reg r.code]
  | .mem (.direct16 off) => modRM 0 reg 6 :: enc16 off
  | .mem (.base16 b d) => modRM (encDisp16 d).1 reg b.code :: (encDisp16 d).2
  | .mem (.direct32 off) => modRM 0 reg 5 :: enc32 off
  | .mem (.base32 b d) => modRM (encDisp32 d).1 reg b.code :: (encDisp32 d).2
  | .mem (.sib sc index b d) =>
    modRM (encDisp32 d).1 reg 4 :: modRM sc.code (encIndex index) b.code :: (encDisp32 d).2
  | .mem (.sibNoBase sc index off) => modRM 0 reg 4 :: modRM sc.code (encIndex index) 5 :: enc32 off

/-- An opcode byte, a mod r/m operand and an immediate byte (rules R134, R136). -/
def encEImm8 (op : Byte) (reg : BitVec 3) (rm : RM) (imm : BitVec 8) : List Byte := op :: (encRM reg rm ++ [imm])

/-- An opcode byte, a mod r/m operand and an immediate of the operand size (rules R134, R136). -/
def encEImmV (o : Size) (op : Byte) (reg : BitVec 3) (rm : RM) (imm : BitVec 32) : List Byte :=
  op :: (encRM reg rm ++ encSized o imm)

/-- An opcode byte and a mod r/m operand (rule R134). -/
def encE (op : Byte) (reg : BitVec 3) (rm : RM) : List Byte := op :: encRM reg rm

/-- An opcode byte and a field of the given size (rules R136 to R138). -/
def encV (sz : Size) (op : Byte) (v : BitVec 32) : List Byte := op :: encSized sz v

/-- A conditional jump with condition code `cc`: 70 to 7F with `rel8`, 0F 80 to 8F with `rel16/32` (rules R128, R138). -/
def encJcc (o : Size) (cc : Byte) : Rel → List Byte
  | .short rel => [0x70 + cc, rel]
  | .near rel => 0x0F :: encV o (0x80 + cc) rel

/-- A shift or rotate of kind `kind` at width bit `w`: C0/C1 with an immediate, D0/D1 by 1, D2/D3 by CL (rule R142). -/
def encShift (w : Byte) (kind : BitVec 3) (rm : RM) : Count → List Byte
  | .one => encE (0xD0 + w) kind rm
  | .cl => encE (0xD2 + w) kind rm
  | .imm8 n => encEImm8 (0xC0 + w) kind rm n

/-- The bytes of an instruction (prefix bytes have terms of their own), written from the encoding patterns of the
opcode table, under operand size `o` and address size `a` (rules R110 to R138). -/
def encode (o a : Size) : Instr → List Byte
  | .addRm8R8 rm r => encE 0x00 r.code rm
  | .addRmvRv rm r => encE 0x01 r.code rm
  | .addR8Rm8 rm r => encE 0x02 r.code rm
  | .addRvRmv rm r => encE 0x03 r.code rm
  | .addAlImm8 imm => [0x04, imm]
  | .addAxImmv imm => encV o 0x05 imm
  | .addRm8Imm8 rm imm => encEImm8 0x80 0 rm imm
  | .addRmvImmv rm imm => encEImmV o 0x81 0 rm imm
  | .addRmvImm8 rm imm => encEImm8 0x83 0 rm imm
  | .orRm8R8 rm r => encE 0x08 r.code rm
  | .orRmvRv rm r => encE 0x09 r.code rm
  | .orR8Rm8 rm r => encE 0x0A r.code rm
  | .orRvRmv rm r => encE 0x0B r.code rm
  | .orAlImm8 imm => [0x0C, imm]
  | .orAxImmv imm => encV o 0x0D imm
  | .orRm8Imm8 rm imm => encEImm8 0x80 1 rm imm
  | .orRmvImmv rm imm => encEImmV o 0x81 1 rm imm
  | .orRmvImm8 rm imm => encEImm8 0x83 1 rm imm
  | .adcRm8R8 rm r => encE 0x10 r.code rm
  | .adcRmvRv rm r => encE 0x11 r.code rm
  | .adcR8Rm8 rm r => encE 0x12 r.code rm
  | .adcRvRmv rm r => encE 0x13 r.code rm
  | .adcAlImm8 imm => [0x14, imm]
  | .adcAxImmv imm => encV o 0x15 imm
  | .adcRm8Imm8 rm imm => encEImm8 0x80 2 rm imm
  | .adcRmvImmv rm imm => encEImmV o 0x81 2 rm imm
  | .adcRmvImm8 rm imm => encEImm8 0x83 2 rm imm
  | .sbbRm8R8 rm r => encE 0x18 r.code rm
  | .sbbRmvRv rm r => encE 0x19 r.code rm
  | .sbbR8Rm8 rm r => encE 0x1A r.code rm
  | .sbbRvRmv rm r => encE 0x1B r.code rm
  | .sbbAlImm8 imm => [0x1C, imm]
  | .sbbAxImmv imm => encV o 0x1D imm
  | .sbbRm8Imm8 rm imm => encEImm8 0x80 3 rm imm
  | .sbbRmvImmv rm imm => encEImmV o 0x81 3 rm imm
  | .sbbRmvImm8 rm imm => encEImm8 0x83 3 rm imm
  | .andRm8R8 rm r => encE 0x20 r.code rm
  | .andRmvRv rm r => encE 0x21 r.code rm
  | .andR8Rm8 rm r => encE 0x22 r.code rm
  | .andRvRmv rm r => encE 0x23 r.code rm
  | .andAlImm8 imm => [0x24, imm]
  | .andAxImmv imm => encV o 0x25 imm
  | .andRm8Imm8 rm imm => encEImm8 0x80 4 rm imm
  | .andRmvImmv rm imm => encEImmV o 0x81 4 rm imm
  | .andRmvImm8 rm imm => encEImm8 0x83 4 rm imm
  | .subRm8R8 rm r => encE 0x28 r.code rm
  | .subRmvRv rm r => encE 0x29 r.code rm
  | .subR8Rm8 rm r => encE 0x2A r.code rm
  | .subRvRmv rm r => encE 0x2B r.code rm
  | .subAlImm8 imm => [0x2C, imm]
  | .subAxImmv imm => encV o 0x2D imm
  | .subRm8Imm8 rm imm => encEImm8 0x80 5 rm imm
  | .subRmvImmv rm imm => encEImmV o 0x81 5 rm imm
  | .subRmvImm8 rm imm => encEImm8 0x83 5 rm imm
  | .xorRm8R8 rm r => encE 0x30 r.code rm
  | .xorRmvRv rm r => encE 0x31 r.code rm
  | .xorR8Rm8 rm r => encE 0x32 r.code rm
  | .xorRvRmv rm r => encE 0x33 r.code rm
  | .xorAlImm8 imm => [0x34, imm]
  | .xorAxImmv imm => encV o 0x35 imm
  | .xorRm8Imm8 rm imm => encEImm8 0x80 6 rm imm
  | .xorRmvImmv rm imm => encEImmV o 0x81 6 rm imm
  | .xorRmvImm8 rm imm => encEImm8 0x83 6 rm imm
  | .cmpRm8R8 rm r => encE 0x38 r.code rm
  | .cmpRmvRv rm r => encE 0x39 r.code rm
  | .cmpR8Rm8 rm r => encE 0x3A r.code rm
  | .cmpRvRmv rm r => encE 0x3B r.code rm
  | .cmpAlImm8 imm => [0x3C, imm]
  | .cmpAxImmv imm => encV o 0x3D imm
  | .cmpRm8Imm8 rm imm => encEImm8 0x80 7 rm imm
  | .cmpRmvImmv rm imm => encEImmV o 0x81 7 rm imm
  | .cmpRmvImm8 rm imm => encEImm8 0x83 7 rm imm
  | .incReg r => [0x40 + r.code.setWidth 8]
  | .decReg r => [0x48 + r.code.setWidth 8]
  | .pushReg r => [0x50 + r.code.setWidth 8]
  | .popReg r => [0x58 + r.code.setWidth 8]
  | .bound m r => encE 0x62 r.code (.mem m)
  | .arpl rm r => encE 0x63 r.code rm
  | .pushImmv imm => encV o 0x68 imm
  | .imulRvRmvImmv rm r imm => encEImmV o 0x69 r.code rm imm
  | .pushImm8 imm => [0x6A, imm]
  | .imulRvRmvImm8 rm r imm => encEImm8 0x6B r.code rm imm
  | .jo rel => encJcc o 0 rel
  | .jno rel => encJcc o 1 rel
  | .jb rel => encJcc o 2 rel
  | .jnb rel => encJcc o 3 rel
  | .jz rel => encJcc o 4 rel
  | .jnz rel => encJcc o 5 rel
  | .jbe rel => encJcc o 6 rel
  | .jnbe rel => encJcc o 7 rel
  | .js rel => encJcc o 8 rel
  | .jns rel => encJcc o 9 rel
  | .jp rel => encJcc o 10 rel
  | .jnp rel => encJcc o 11 rel
  | .jl rel => encJcc o 12 rel
  | .jnl rel => encJcc o 13 rel
  | .jle rel => encJcc o 14 rel
  | .jnle rel => encJcc o 15 rel
  | .testRm8R8 rm r => encE 0x84 r.code rm
  | .testRmvRv rm r => encE 0x85 r.code rm
  | .xchgRm8R8 rm r => encE 0x86 r.code rm
  | .xchgRmvRv rm r => encE 0x87 r.code rm
  | .movRm8R8 rm r => encE 0x88 r.code rm
  | .movRmvRv rm r => encE 0x89 r.code rm
  | .movR8Rm8 rm r => encE 0x8A r.code rm
  | .movRvRmv rm r => encE 0x8B r.code rm
  | .movRm16Sreg rm sr => encE 0x8C sr.code rm
  | .lea m r => encE 0x8D r.code (.mem m)
  | .movSregRm16 rm sr => encE 0x8E sr.code rm
  | .popRm rm => encE 0x8F 0 rm
  | .xchgAxReg r => [0x90 + r.code.setWidth 8]
  | .callPtr off sel => 0x9A :: (encSized o off ++ enc16 sel)
  | .movAlMoffs off => encV a 0xA0 off
  | .movAxMoffs off => encV a 0xA1 off
  | .movMoffsAl off => encV a 0xA2 off
  | .movMoffsAx off => encV a 0xA3 off
  | .testAlImm8 imm => [0xA8, imm]
  | .testAxImmv imm => encV o 0xA9 imm
  | .movReg8Imm8 r imm => [0xB0 + r.code.setWidth 8, imm]
  | .movRegvImmv r imm => encV o (0xB8 + r.code.setWidth 8) imm
  | .rolRm8 rm n => encShift 0x00 0 rm n
  | .rolRmv rm n => encShift 0x01 0 rm n
  | .rorRm8 rm n => encShift 0x00 1 rm n
  | .rorRmv rm n => encShift 0x01 1 rm n
  | .rclRm8 rm n => encShift 0x00 2 rm n
  | .rclRmv rm n => encShift 0x01 2 rm n
  | .rcrRm8 rm n => encShift 0x00 3 rm n
  | .rcrRmv rm n => encShift 0x01 3 rm n
  | .shlRm8 rm n => encShift 0x00 4 rm n
  | .shlRmv rm n => encShift 0x01 4 rm n
  | .shrRm8 rm n => encShift 0x00 5 rm n
  | .shrRmv rm n => encShift 0x01 5 rm n
  | .sarRm8 rm n => encShift 0x00 7 rm n
  | .sarRmv rm n => encShift 0x01 7 rm n
  | .retNearImm imm => 0xC2 :: enc16 imm
  | .les m r => encE 0xC4 r.code (.mem m)
  | .lds m r => encE 0xC5 r.code (.mem m)
  | .movRm8Imm8 rm imm => encEImm8 0xC6 0 rm imm
  | .movRmvImmv rm imm => encEImmV o 0xC7 0 rm imm
  | .enter imm level => 0xC8 :: (enc16 imm ++ [level])
  | .retFarImm imm => 0xCA :: enc16 imm
  | .intImm8 imm => [0xCD, imm]
  | .esc low ext rm => encE (0xD8 + low.setWidth 8) ext rm
  | .loopne rel => [0xE0, rel]
  | .loope rel => [0xE1, rel]
  | .loop rel => [0xE2, rel]
  | .jcxz rel => [0xE3, rel]
  | .inAlImm8 imm => [0xE4, imm]
  | .inAxImm8 imm => [0xE5, imm]
  | .outImm8Al imm => [0xE6, imm]
  | .outImm8Ax imm => [0xE7, imm]
  | .callRel rel => encV o 0xE8 rel
  | .jmpRel rel => encV o 0xE9 rel
  | .jmpPtr off sel => 0xEA :: (encSized o off ++ enc16 sel)
  | .jmpRel8 rel => [0xEB, rel]
  | .testRm8Imm8 rm imm => encEImm8 0xF6 0 rm imm
  | .notRm8 rm => encE 0xF6 2 rm
  | .negRm8 rm => encE 0xF6 3 rm
  | .mulRm8 rm => encE 0xF6 4 rm
  | .imulRm8 rm => encE 0xF6 5 rm
  | .divRm8 rm => encE 0xF6 6 rm
  | .idivRm8 rm => encE 0xF6 7 rm
  | .testRmvImmv rm imm => encEImmV o 0xF7 0 rm imm
  | .notRmv rm => encE 0xF7 2 rm
  | .negRmv rm => encE 0xF7 3 rm
  | .mulRmv rm => encE 0xF7 4 rm
  | .imulRmv rm => encE 0xF7 5 rm
  | .divRmv rm => encE 0xF7 6 rm
  | .idivRmv rm => encE 0xF7 7 rm
  | .incRm8 rm => encE 0xFE 0 rm
  | .decRm8 rm => encE 0xFE 1 rm
  | .incRmv rm => encE 0xFF 0 rm
  | .decRmv rm => encE 0xFF 1 rm
  | .callRmv rm => encE 0xFF 2 rm
  | .callMem m => encE 0xFF 3 (.mem m)
  | .jmpRmv rm => encE 0xFF 4 rm
  | .jmpMem m => encE 0xFF 5 (.mem m)
  | .pushRm rm => encE 0xFF 6 rm
  | .sldt rm => 0x0F :: encE 0x00 0 rm
  | .str rm => 0x0F :: encE 0x00 1 rm
  | .lldt rm => 0x0F :: encE 0x00 2 rm
  | .ltr rm => 0x0F :: encE 0x00 3 rm
  | .verr rm => 0x0F :: encE 0x00 4 rm
  | .verw rm => 0x0F :: encE 0x00 5 rm
  | .sgdt rm => 0x0F :: encE 0x01 0 rm
  | .sidt rm => 0x0F :: encE 0x01 1 rm
  | .lgdt m => 0x0F :: encE 0x01 2 (.mem m)
  | .lidt m => 0x0F :: encE 0x01 3 (.mem m)
  | .smsw rm => 0x0F :: encE 0x01 4 rm
  | .lmsw rm => 0x0F :: encE 0x01 6 rm
  | .lar rm r => 0x0F :: encE 0x02 r.code rm
  | .lsl rm r => 0x0F :: encE 0x03 r.code rm
  | .movR32Cr c r => 0x0F :: encE 0x20 c.code (.reg r)
  | .movR32Dr d r => 0x0F :: encE 0x21 d.code (.reg r)
  | .movCrR32 c r => 0x0F :: encE 0x22 c.code (.reg r)
  | .movDrR32 d r => 0x0F :: encE 0x23 d.code (.reg r)
  | .movR32Tr t r => 0x0F :: encE 0x24 t.code (.reg r)
  | .movTrR32 t r => 0x0F :: encE 0x26 t.code (.reg r)
  | .seto rm => 0x0F :: encE 0x90 0 rm
  | .setno rm => 0x0F :: encE 0x91 0 rm
  | .setb rm => 0x0F :: encE 0x92 0 rm
  | .setnb rm => 0x0F :: encE 0x93 0 rm
  | .setz rm => 0x0F :: encE 0x94 0 rm
  | .setnz rm => 0x0F :: encE 0x95 0 rm
  | .setbe rm => 0x0F :: encE 0x96 0 rm
  | .setnbe rm => 0x0F :: encE 0x97 0 rm
  | .sets rm => 0x0F :: encE 0x98 0 rm
  | .setns rm => 0x0F :: encE 0x99 0 rm
  | .setp rm => 0x0F :: encE 0x9A 0 rm
  | .setnp rm => 0x0F :: encE 0x9B 0 rm
  | .setl rm => 0x0F :: encE 0x9C 0 rm
  | .setnl rm => 0x0F :: encE 0x9D 0 rm
  | .setle rm => 0x0F :: encE 0x9E 0 rm
  | .setnle rm => 0x0F :: encE 0x9F 0 rm
  | .btRmvRv rm r => 0x0F :: encE 0xA3 r.code rm
  | .shldImm8 rm r imm => 0x0F :: encEImm8 0xA4 r.code rm imm
  | .shldCl rm r => 0x0F :: encE 0xA5 r.code rm
  | .btsRmvRv rm r => 0x0F :: encE 0xAB r.code rm
  | .shrdImm8 rm r imm => 0x0F :: encEImm8 0xAC r.code rm imm
  | .shrdCl rm r => 0x0F :: encE 0xAD r.code rm
  | .imulRvRmv rm r => 0x0F :: encE 0xAF r.code rm
  | .lss m r => 0x0F :: encE 0xB2 r.code (.mem m)
  | .btrRmvRv rm r => 0x0F :: encE 0xB3 r.code rm
  | .lfs m r => 0x0F :: encE 0xB4 r.code (.mem m)
  | .lgs m r => 0x0F :: encE 0xB5 r.code (.mem m)
  | .movzx8 rm r => 0x0F :: encE 0xB6 r.code rm
  | .movzx16 rm r => 0x0F :: encE 0xB7 r.code rm
  | .btRmvImm8 rm imm => 0x0F :: encEImm8 0xBA 4 rm imm
  | .btsRmvImm8 rm imm => 0x0F :: encEImm8 0xBA 5 rm imm
  | .btrRmvImm8 rm imm => 0x0F :: encEImm8 0xBA 6 rm imm
  | .btcRmvImm8 rm imm => 0x0F :: encEImm8 0xBA 7 rm imm
  | .btcRmvRv rm r => 0x0F :: encE 0xBB r.code rm
  | .bsf rm r => 0x0F :: encE 0xBC r.code rm
  | .bsr rm r => 0x0F :: encE 0xBD r.code rm
  | .movsx8 rm r => 0x0F :: encE 0xBE r.code rm
  | .movsx16 rm r => 0x0F :: encE 0xBF r.code rm
  | .segEs => [0x26]
  | .segCs => [0x2E]
  | .segSs => [0x36]
  | .segDs => [0x3E]
  | .segFs => [0x64]
  | .segGs => [0x65]
  | .opsize => [0x66]
  | .addrsize => [0x67]
  | .lock => [0xF0]
  | .repne => [0xF2]
  | .rep => [0xF3]
  | .pushEs => [0x06]
  | .popEs => [0x07]
  | .pushCs => [0x0E]
  | .pushSs => [0x16]
  | .popSs => [0x17]
  | .pushDs => [0x1E]
  | .popDs => [0x1F]
  | .daa => [0x27]
  | .das => [0x2F]
  | .aaa => [0x37]
  | .aas => [0x3F]
  | .aam => [0xD4, 0x0A]
  | .aad => [0xD5, 0x0A]
  | .pusha => [0x60]
  | .popa => [0x61]
  | .ins8 => [0x6C]
  | .insv => [0x6D]
  | .outs8 => [0x6E]
  | .outsv => [0x6F]
  | .nop => [0x90]
  | .cbw => [0x98]
  | .cwd => [0x99]
  | .wait => [0x9B]
  | .pushf => [0x9C]
  | .popf => [0x9D]
  | .sahf => [0x9E]
  | .lahf => [0x9F]
  | .movs8 => [0xA4]
  | .movsv => [0xA5]
  | .cmps8 => [0xA6]
  | .cmpsv => [0xA7]
  | .stos8 => [0xAA]
  | .stosv => [0xAB]
  | .lods8 => [0xAC]
  | .lodsv => [0xAD]
  | .scas8 => [0xAE]
  | .scasv => [0xAF]
  | .retNear => [0xC3]
  | .leave => [0xC9]
  | .retFar => [0xCB]
  | .int3 => [0xCC]
  | .into => [0xCE]
  | .iret => [0xCF]
  | .xlat => [0xD7]
  | .inAlDx => [0xEC]
  | .inAxDx => [0xED]
  | .outDxAl => [0xEE]
  | .outDxAx => [0xEF]
  | .hlt => [0xF4]
  | .cmc => [0xF5]
  | .clc => [0xF8]
  | .stc => [0xF9]
  | .cli => [0xFA]
  | .sti => [0xFB]
  | .cld => [0xFC]
  | .std => [0xFD]
  | .clts => [0x0F, 0x06]
  | .pushFs => [0x0F, 0xA0]
  | .popFs => [0x0F, 0xA1]
  | .pushGs => [0x0F, 0xA8]
  | .popGs => [0x0F, 0xA9]

/-! ### Words numbered as spec/opcode_table.json numbers them -/

/-- The first `n` bytes of a number, least significant byte first. -/
def bytesOfNat : Nat → Nat → List Byte
  | 0, _ => []
  | n + 1, w => BitVec.ofNat 8 w :: bytesOfNat n (w / 256)

/-- The longest instruction of the spec's default configuration, in bytes (rule R149). -/
def longestInstruction : Nat := 15

/-- The bytes of an instruction given as its first `nbits` bits, bit 0 the least significant bit of the first byte,
every bit above `nbits` zero, up to the longest instruction. -/
def bytesOfTableWord (nbits w : Nat) : List Byte :=
  bytesOfNat longestInstruction (w % 2 ^ nbits)

/-- The instruction the decoder reads, with the 16-bit attributes of real-address mode (rule R117), from an instruction
given as a number. -/
def decodeTableWord (nbits w : Nat) : Option Instr :=
  match decode .s16 .s16 (bytesOfTableWord nbits w) with
  | .ok (i, _) => some i
  | .error _ => none

end Sys2Proof
end

