-- ==== Sys2Proof/Machine/State.lean ====
section
/-! DEFINITION. The architectural state (10_state.md) as plain data, the reasons a step can stop, and the state after
reset (rule R47). Fields that are the model's own and not the spec's say so. -/

namespace Sys2Proof.Machine

/-- The eight general registers (rule R20). -/
structure GRegs where
  eax : Word
  ecx : Word
  edx : Word
  ebx : Word
  esp : Word
  ebp : Word
  esi : Word
  edi : Word
  deriving DecidableEq, Repr

/-- The named flags of EFLAGS (rule R26). The reserved bits are not state (rules R26, R660). -/
structure Flags where
  cf : Bool
  pf : Bool
  af : Bool
  zf : Bool
  sf : Bool
  tf : Bool
  /-- IF, interrupt enable. -/
  ifl : Bool
  df : Bool
  /-- OF, overflow. -/
  ofl : Bool
  iopl : BitVec 2
  nt : Bool
  rf : Bool
  vm : Bool
  deriving DecidableEq, Repr

/-- A segment register: the visible selector and the hidden part (rule R31). -/
structure Segment where
  sel : Half
  valid : Bool
  base : Word
  limit : Word
  rights : Rights
  deriving DecidableEq, Repr

/-- The six segment registers (rule R31). -/
structure Segments where
  es : Segment
  cs : Segment
  ss : Segment
  ds : Segment
  fs : Segment
  gs : Segment
  deriving DecidableEq, Repr

/-- The interrupt-inhibit shadow `InhibitInt` (rule R41). -/
inductive Inhibit where
  | none
  | maskable
  | all
  deriving DecidableEq, Repr

/-- The two repeat prefixes: F3 and F2 (rule R116). -/
inductive RepPrefix where
  | repe
  | repne
  deriving DecidableEq, Repr

/-- The model's own: the instruction being executed, as its prefixes set it (rules R8, R114) and its length in bytes
(rule R149). Empty between instructions. -/
structure Ctx where
  /-- A 66 prefix was read. -/
  opsz : Bool := false
  /-- A 67 prefix was read. -/
  adsz : Bool := false
  /-- The segment-override prefix read. -/
  seg : Option SegReg := .none
  /-- The repeat prefix read. -/
  rep : Option RepPrefix := .none
  /-- An F0 prefix was read. -/
  lock : Bool := false
  /-- Bytes of the instruction consumed: its prefixes while they are read, the whole instruction when it runs. -/
  len : Nat := 0
  deriving DecidableEq, Repr

/-- An operand width: 8, 16 or 32 bits (rules R6, R121). -/
inductive Width where
  | b8
  | w16
  | d32
  deriving DecidableEq, Repr

/-- The host event `IoOut(port, n, v)` (rule R96). -/
structure IoOut where
  port : Half
  width : Width
  value : Word
  deriving DecidableEq, Repr

/-- The machine. -/
structure State where
  /-- The OPEN parameters of rule R5: no instruction writes them. -/
  cfg : Config
  regs : GRegs
  /-- EIP (rule R24). -/
  eip : Word
  /-- The model's own: `EIP_next` of the last instruction was 2^32 or more, and `eip` holds its low 32 bits. Rule R25
  lets the sum not wrap, so that the next fetch is out of the code limit (D21; log entry 11). -/
  eipCarry : Bool
  /-- EFLAGS (rules R26 to R29). -/
  flags : Flags
  segs : Segments
  gdtr : TableReg
  idtr : TableReg
  ldtr : SystemReg
  taskr : SystemReg
  /-- CR0 (rule R35), CR2 and CR3 (rule R36). -/
  cr0 : Word
  cr2 : Word
  cr3 : Word
  /-- The debug registers (rule R39). -/
  dr0 : Word
  dr1 : Word
  dr2 : Word
  dr3 : Word
  dr6 : Word
  dr7 : Word
  /-- CPL (rule R38). -/
  cpl : BitVec 2
  /-- `InhibitInt` (rule R41). -/
  inhibit : Inhibit
  /-- Host input: BUSY# is active (rule R42). -/
  busyPin : Bool
  /-- Host input: ERROR# is asserted (rule R42). -/
  errorPin : Bool
  /-- Host input: a maskable interrupt arrives before the next instruction (rules R5, R620). -/
  intrPending : Bool
  /-- Host input: NMI arrives before the next instruction (rules R5, R620). -/
  nmiPending : Bool
  mem : Memory
  /-- Physical addresses stored to since the last completed control transfer (rule R93). -/
  stored : List Nat
  /-- The I/O events so far, oldest first (rule R96). -/
  ioOut : List IoOut
  /-- The model's own: the instruction being executed. -/
  ctx : Ctx
  /-- The model's own: how many free values were drawn (rule R12). -/
  draws : Nat
  deriving DecidableEq, Repr

/-- The exceptions that a rule of the spec raises (rule R600). -/
inductive Exc where
  /-- #UD, vector 6. -/
  | invalidOpcode
  /-- #NM, vector 7. -/
  | coprocessorNotAvailable
  /-- #NP, vector 11. -/
  | segmentNotPresent
  /-- #SS, vector 12. -/
  | stackFault
  /-- #GP, vector 13. -/
  | generalProtection
  /-- #MF, vector 16. -/
  | coprocessorError
  deriving DecidableEq, Repr

/-- The terminal outcomes `Fault(vector, code)` and `Shutdown` (rule R11). -/
inductive Fault where
  /-- An exception, raised by the checks of an instruction or of its fetch, with the error code if it carries one
  (rules R600, R606). The state it leaves is the state before the step (rule R615); delivery is outside the spec
  (rule R616), so the run ends here. Safe: the hardware would go on in a handler. -/
  | exception (e : Exc) (code : Option (BitVec 16))
  /-- A push found no room in real-address or virtual 8086 mode with SP = 1, 3 or 5 (rules R330, R608). Safe. -/
  | shutdown
  deriving DecidableEq, Repr

/-- The outcome `Refuse(reason)` (rule R11): the spec gives the case no meaning. -/
inductive Refusal where
  /-- An instruction without a meaning yet: raised by its arm of the dispatch. Safe. -/
  | notModelled (mnemonic : String)
  /-- "no semantics in source" (rule R480 (c)): raised by the instructions that have an encoding only. Safe. -/
  | noSemantics (mnemonic : String)
  /-- A reserved encoding (rule R146): raised by the fetch. Safe. -/
  | reservedEncoding (why : Reject)
  /-- Two prefixes of one group (rule R114): raised by the second prefix. Safe. -/
  | duplicatePrefix
  /-- Longer than `MAX_INSTRUCTION_LENGTH` (rule R149): raised by the fetch. Safe. -/
  | instructionTooLong
  /-- LOCK before an instruction that does not accept it (rule R92): raised by that instruction. Safe. -/
  | lockNotAccepted
  /-- CR0.PG = 1, as a state (rule R88) or as a value to be written (rule R211). Safe. -/
  | paging
  /-- A MOV to CR0 that clears PE (rule R211). Safe. -/
  | leavingProtectedMode
  /-- A MOV to CR3 with bits 11:0 not zero (rule R36). Safe. -/
  | cr3LowBits
  /-- DR7 bits 7:0 not zero, as a state or as a value to be written (rules R39, R213). Safe. -/
  | breakpointsEnabled
  /-- EFLAGS.TF = 1 (rule R28): raised by the step. Safe. -/
  | trapFlagSet
  /-- POP into (E)SP, or PUSH or POP of a memory operand addressed through ESP (rule R324). Safe. -/
  | espOperand
  /-- An output past port 65535 (rule R96). Safe. -/
  | portRange
  /-- A fetch of a byte stored to since the last control transfer, under `SMC_POLICY` refuse (rule R93). Safe. -/
  | selfModified
  /-- An access to an address the host does not back (rule R79). Safe. -/
  | unbackedAddress
  /-- An access to, or a fetch from, the window of a device, whose answers the spec leaves to the host (rule R79). Safe. -/
  | deviceWindow
  /-- A branch whose target arithmetic is general knowledge, with `ACCEPT_GK_BRANCHES` false (rule R480). Safe. -/
  | branchesDisabled
  /-- An interrupt arrived that may be taken: its delivery is outside the spec (rules R616, R620). Raised by the step.
  Safe. -/
  | interruptDelivery
  deriving DecidableEq, Repr

/-- The rights a segment register holds in real-address and virtual 8086 mode (rule R74). -/
def realRights : Rights :=
  { kind := .data true false, dpl := 0, present := true, big := false }

/-- SS, DS, ES, FS and GS after reset: selector 0, base 0, limit 0FFFFH, valid, writable data (rule R47). The rights that
rule R47 does not name are those a load in real-address mode forms (rule R74; DEDUCED, log entry 1). -/
def resetDataSegment : Segment :=
  { sel := 0, valid := true, base := 0, limit := 0xFFFF, rights := realRights }

/-- CS after reset: selector F000H, base FFFF0000H, limit 0FFFFH, valid, readable, executable (rule R47). The table of
rule R47 gives no other right of CS: DPL 0, present, non-conforming and the D bit 0 are the model's choice
(DESIGN CHOICE, log entry 1). -/
def resetCodeSegment : Segment :=
  { sel := 0xF000, valid := true, base := 0xFFFF0000, limit := 0xFFFF,
    rights := { kind := .code true false, dpl := 0, present := true, big := false } }

/-- The parameter record `ResetState` (rules R5, R660) with the defaults of rule R47, and 0 for every register whose
value rule R47 leaves unspecified (DESIGN CHOICE, log entry 1). TR6 and TR7 hold no value (rule R40). -/
structure ResetState where
  regs : GRegs := ⟨0, 0, 0, 0, 0, 0, 0, 0⟩
  eip : Word := 0x0000FFF0
  flags : Flags :=
    { cf := false, pf := false, af := false, zf := false, sf := false, tf := false, ifl := false, df := false,
      ofl := false, iopl := 0, nt := false, rf := false, vm := false }
  segs : Segments :=
    { es := resetDataSegment, cs := resetCodeSegment, ss := resetDataSegment, ds := resetDataSegment,
      fs := resetDataSegment, gs := resetDataSegment }
  gdtr : TableReg := { limit := 0, base := 0 }
  idtr : TableReg := { limit := 0x03FF, base := 0 }
  ldtr : SystemReg := { sel := 0, base := 0, limit := 0 }
  taskr : SystemReg := { sel := 0, base := 0, limit := 0 }
  cr0 : Word := 0
  cr2 : Word := 0
  cr3 : Word := 0
  dr0 : Word := 0
  dr1 : Word := 0
  dr2 : Word := 0
  dr3 : Word := 0
  dr6 : Word := 0
  dr7 : Word := 0
  cpl : BitVec 2 := 0
  inhibit : Inhibit := .none
  deriving DecidableEq, Repr

/-- RESET: the registers are replaced by those of a `ResetState` (rules R620, R660). The parameters and the memory are
the host's; no input is active, nothing is noted as stored to, no output was made. -/
def ResetState.start (r : ResetState) (cfg : Config) (mem : Memory) : State where
  cfg := cfg
  regs := r.regs
  eip := r.eip
  eipCarry := false
  flags := r.flags
  segs := r.segs
  gdtr := r.gdtr
  idtr := r.idtr
  ldtr := r.ldtr
  taskr := r.taskr
  cr0 := r.cr0
  cr2 := r.cr2
  cr3 := r.cr3
  dr0 := r.dr0
  dr1 := r.dr1
  dr2 := r.dr2
  dr3 := r.dr3
  dr6 := r.dr6
  dr7 := r.dr7
  cpl := r.cpl
  inhibit := r.inhibit
  busyPin := false
  errorPin := false
  intrPending := false
  nmiPending := false
  mem := mem
  stored := []
  ioOut := []
  ctx := {}
  draws := 0

/-- The state after reset: every parameter of rule R5 at its default, and memory with nothing listed. -/
def State.reset : State := ({} : ResetState).start {} []

end Sys2Proof.Machine
end

