-- ==== Sys2Proof/Machine/Registers.lean ====
section
/-! DEFINITION. Access to registers: modes and sizes (rules R8, R37, R45), general registers at every width (rules R20
to R22), segment and special registers, and free values (rule R12). -/

namespace Sys2Proof.Machine

/-! ### Widths (rules R6, R121) -/

/-- The number of bytes of a width. -/
def Width.bytes : Width → Nat
  | .b8 => 1
  | .w16 => 2
  | .d32 => 4

/-- The number of bits of a width, `N` in the rules. -/
def Width.bits : Width → Nat
  | .b8 => 8
  | .w16 => 16
  | .d32 => 32

/-- The width of a full-size operand (rule R121). -/
def Width.ofSize : Size → Width
  | .s16 => .w16
  | .s32 => .d32

/-- `trunc_N`, the result held zero-extended (rule R6). -/
def Width.trunc (w : Width) (v : Word) : Word :=
  match w with
  | .b8 => (v.extractLsb' 0 8).setWidth 32
  | .w16 => (v.extractLsb' 0 16).setWidth 32
  | .d32 => v

/-- `signed_N` of the low N bits (rule R6). -/
def Width.signed (w : Width) (v : Word) : Int :=
  match w with
  | .b8 => (v.extractLsb' 0 8).toInt
  | .w16 => (v.extractLsb' 0 16).toInt
  | .d32 => v.toInt

/-- `sext_N` of an immediate byte (rules R6, R127). -/
def Width.sext8 (w : Width) (imm : BitVec 8) : Word := w.trunc (imm.signExtend 32)

/-- Bit N - 1, the high-order bit (rule R9). -/
def Width.msb (w : Width) (v : Word) : Bool := v.getLsbD (w.bits - 1)

/-! ### Modes and size attributes -/

/-- The modes of execution: real-address, virtual 8086 and protected (rule R8). -/
inductive Mode where
  | real
  | v86
  | prot
  deriving DecidableEq, Repr

/-- CR0.PE (rule R35). -/
def State.pe (s : State) : Bool := s.cr0.getLsbD 0

/-- CR0.TS (rule R35). -/
def State.ts (s : State) : Bool := s.cr0.getLsbD 3

/-- CR0.PG (rule R35). -/
def State.pg (s : State) : Bool := s.cr0.getLsbD 31

/-- `Mode` (rule R8). -/
def State.mode (s : State) : Mode :=
  if s.pe then (if s.flags.vm then .v86 else .prot) else .real

/-- The segment register by name (rule R31). -/
def Segments.get (g : Segments) : SegReg → Segment
  | .es => g.es
  | .cs => g.cs
  | .ss => g.ss
  | .ds => g.ds
  | .fs => g.fs
  | .gs => g.gs

/-- The segment registers with one replaced. -/
def Segments.set (g : Segments) (r : SegReg) (x : Segment) : Segments :=
  match r with
  | .es => { g with es := x }
  | .cs => { g with cs := x }
  | .ss => { g with ss := x }
  | .ds => { g with ds := x }
  | .fs => { g with fs := x }
  | .gs => { g with gs := x }

/-- A segment register of the machine. -/
def State.seg (s : State) (r : SegReg) : Segment := s.segs.get r

/-- The machine with one segment register replaced. -/
def State.setSeg (s : State) (r : SegReg) (x : Segment) : State := { s with segs := s.segs.set r x }

/-- `DefaultSize`: 32 only in protected mode with the D bit of CS set (rules R45, R117). -/
def State.defaultSize (s : State) : Size :=
  match s.mode with
  | .prot => if s.segs.cs.rights.big then .s32 else .s16
  | _ => .s16

/-- The other size attribute, when the size prefix is there (rule R118). -/
def toggleSize (pfx : Bool) (sz : Size) : Size :=
  match pfx, sz with
  | false, sz => sz
  | true, .s16 => .s32
  | true, .s32 => .s16

/-- `OpSize` of the instruction being executed (rule R118). -/
def State.opSize (s : State) : Size := toggleSize s.ctx.opsz s.defaultSize

/-- `AddrSize` of the instruction being executed (rule R119). -/
def State.addrSize (s : State) : Size := toggleSize s.ctx.adsz s.defaultSize

/-- The width of a full-size operand of the instruction being executed. -/
def State.opWidth (s : State) : Width := .ofSize s.opSize

/-- The width of the index and count registers of the instruction being executed (rule R119). -/
def State.addrWidth (s : State) : Width := .ofSize s.addrSize

/-- `StackAddrSize`, as the width of the stack pointer (rule R37). -/
def State.stackWidth (s : State) : Width :=
  match s.mode with
  | .prot => if s.segs.ss.rights.big then .d32 else .w16
  | _ => .w16

/-! ### General registers -/

/-- A general register by number (rule R20). -/
def GRegs.get (g : GRegs) : Reg → Word
  | .eax => g.eax
  | .ecx => g.ecx
  | .edx => g.edx
  | .ebx => g.ebx
  | .esp => g.esp
  | .ebp => g.ebp
  | .esi => g.esi
  | .edi => g.edi

/-- The general registers with one replaced. -/
def GRegs.set (g : GRegs) (r : Reg) (v : Word) : GRegs :=
  match r with
  | .eax => { g with eax := v }
  | .ecx => { g with ecx := v }
  | .edx => { g with edx := v }
  | .ebx => { g with ebx := v }
  | .esp => { g with esp := v }
  | .ebp => { g with ebp := v }
  | .esi => { g with esi := v }
  | .edi => { g with edi := v }

/-- The register a byte register number lives in, and whether in its bits 15:8 (rule R21). -/
def byteHome : Reg → Reg × Bool
  | .eax => (.eax, false)
  | .ecx => (.ecx, false)
  | .edx => (.edx, false)
  | .ebx => (.ebx, false)
  | .esp => (.eax, true)
  | .ebp => (.ecx, true)
  | .esi => (.edx, true)
  | .edi => (.ebx, true)

/-- `Reg_N[n]`, zero-extended (rules R7, R20, R21). -/
def State.reg (s : State) (w : Width) (r : Reg) : Word :=
  match w with
  | .b8 =>
    let (home, high) := byteHome r
    ((s.regs.get home).extractLsb' (if high then 8 else 0) 8).setWidth 32
  | .w16 => ((s.regs.get r).extractLsb' 0 16).setWidth 32
  | .d32 => s.regs.get r

/-- A 32-bit register with its low 16 bits replaced (rule R22). -/
def mergeLow16 (old v : Word) : Word := old.extractLsb' 16 16 ++ v.extractLsb' 0 16

/-- A 32-bit register with its low byte replaced (rule R22). -/
def mergeLow8 (old v : Word) : Word := old.extractLsb' 8 24 ++ v.extractLsb' 0 8

/-- A 32-bit register with bits 15:8 replaced (rule R22). -/
def mergeHigh8 (old v : Word) : Word := old.extractLsb' 16 16 ++ v.extractLsb' 0 8 ++ old.extractLsb' 0 8

/-- `Reg_N[n] <- v`; a partial write leaves the other bits (rule R22). -/
def State.setReg (s : State) (w : Width) (r : Reg) (v : Word) : State :=
  match w with
  | .b8 =>
    let (home, high) := byteHome r
    let old := s.regs.get home
    { s with regs := s.regs.set home (if high then mergeHigh8 old v else mergeLow8 old v) }
  | .w16 => { s with regs := s.regs.set r (mergeLow16 (s.regs.get r) v) }
  | .d32 => { s with regs := s.regs.set r v }

/-! ### Control and debug registers (rules R35, R36, R39) -/

/-- CR0, CR2 or CR3. -/
def State.creg (s : State) : CReg → Word
  | .cr0 => s.cr0
  | .cr2 => s.cr2
  | .cr3 => s.cr3

/-- `CRn <- v`. A write of CR0 that takes PE from 0 to 1 enters protected mode at CPL 0, whatever the field held in
real-address mode, where nothing reads it (rules R38, R211, R630, R661; log entry 29). -/
def State.setCreg (s : State) (c : CReg) (v : Word) : State :=
  match c with
  | .cr0 => { s with cr0 := v, cpl := if s.pe = false ∧ v.getLsbD 0 = true then 0 else s.cpl }
  | .cr2 => { s with cr2 := v }
  | .cr3 => { s with cr3 := v }

/-- DR0 to DR3, DR6 or DR7. -/
def State.dreg (s : State) : DReg → Word
  | .dr0 => s.dr0
  | .dr1 => s.dr1
  | .dr2 => s.dr2
  | .dr3 => s.dr3
  | .dr6 => s.dr6
  | .dr7 => s.dr7

/-- `DR[n] <- v`. -/
def State.setDreg (s : State) (d : DReg) (v : Word) : State :=
  match d with
  | .dr0 => { s with dr0 := v }
  | .dr1 => { s with dr1 := v }
  | .dr2 => { s with dr2 := v }
  | .dr3 => { s with dr3 := v }
  | .dr6 => { s with dr6 := v }
  | .dr7 => { s with dr7 := v }

/-! ### Free values -/

/-- The next free value: an arbitrary 32-bit value, unrelated to every other draw (rule R12). -/
def State.nextDraw (s : State) : Word := Config.freeValue s.draws

/-- The state after a draw. -/
def State.drawn (s : State) : State := { s with draws := s.draws + 1 }

end Sys2Proof.Machine
end

