-- ==== Sys2Proof/Machine/Ops.lean ====
section
/-! DEFINITION. The operations that several instructions share: ending an instruction, raising an exception, memory
access (20_memory.md), the stack (44_stack.md), segment loads, control transfer and I/O. -/

namespace Sys2Proof.Machine

/-- Why an instruction ends without a next state. -/
inductive Stop where
  | fault (f : Fault)
  | refused (r : Refusal)
  deriving DecidableEq, Repr

/-- A computation that can stop. -/
abbrev M := Except Stop

/-- What executing one instruction answers. -/
abbrev Result := Host.Outcome State Fault Refusal

/-- The outcome of an instruction (rule R11). -/
def outcome : M State → Result
  | .ok s => .next s
  | .error (.fault f) => .fault f
  | .error (.refused r) => .refused r

/-- The instruction has no meaning in the spec. -/
def refuse {α : Type} (r : Refusal) : M α := .error (.refused r)

/-! ### Exceptions (rules R600, R606, R615, R616) -/

/-- Taking an exception: `Fault(vector, code)`. Nothing the instruction lists after this point happens and no state
changes (rules R7, R615); delivery is outside the spec (rule R616). -/
def raise {α : Type} (e : Exc) (code : Option (BitVec 16)) : M α := .error (.fault (.exception e code))

/-- The interrupt number of an exception (rule R600). -/
def Exc.vector : Exc → Nat
  | .invalidOpcode => 6
  | .coprocessorNotAvailable => 7
  | .segmentNotPresent => 11
  | .stackFault => 12
  | .generalProtection => 13
  | .coprocessorError => 16

/-- `ErrSel(sel)`: the error code of a selector fault (rule R606). -/
def errSel (sel : Half) : BitVec 16 := sel &&& 0xFFFC

/-- `raise #GP(0)`. -/
def raiseGP0 {α : Type} : M α := raise .generalProtection (some 0)

/-- `raise #GP(sel)`. -/
def raiseGPSel {α : Type} (sel : Half) : M α := raise .generalProtection (some (errSel sel))

/-- `raise #NP(sel)`. -/
def raiseNPSel {α : Type} (sel : Half) : M α := raise .segmentNotPresent (some (errSel sel))

/-- `raise #UD`. -/
def raiseUD {α : Type} : M α := raise .invalidOpcode none

/-- The error code 0, which real-address mode does not have (rules R75, R404). -/
def State.zeroCode (s : State) : Option (BitVec 16) :=
  match s.mode with
  | .real => none
  | _ => some 0

/-- `SegFault(s)` (rule R75). -/
def State.segFault (s : State) (r : SegReg) : Fault :=
  .exception (match r with | .ss => .stackFault | _ => .generalProtection) s.zeroCode

/-! ### Ending an instruction (rules R25, R41) -/

/-- The low 32 bits of `EIP_next` = EIP + L (rule R25). -/
def State.eipNext (s : State) : Word := s.eip + BitVec.ofNat 32 s.ctx.len

/-- `EIP_next` is 2^32 or more: rule R25 forms the sum without wrap (D21; log entry 11). -/
def State.nextCarry (s : State) : Bool := decide (2 ^ 32 ≤ s.eip.toNat + s.ctx.len)

/-- The instruction has completed with `InhibitInt <- i`: `pc <- EIP_next`. -/
def State.retireWith (s : State) (i : Inhibit) : State :=
  { s with eip := s.eipNext, eipCarry := s.nextCarry, ctx := {}, inhibit := i }

/-- The instruction has completed: `pc <- EIP_next`, `InhibitInt <- None` (rules R25, R41). -/
def State.retire (s : State) : State := s.retireWith .none

/-- An iteration of a repeated instruction has completed and the instruction is to run again: `pc <- EIP`
(rules R240, R241). -/
def State.again (s : State) : State := { s with ctx := {}, inhibit := .none }

/-! ### The LOCK prefix (rules R92, R115) -/

/-- The instruction does not accept LOCK. DESIGN CHOICE (log entry 28): rules R112 and R611 give no order between this
refusal and what the fetch of the instruction meets; the instruction makes it, so that the whole of it has been fetched
and decoded. -/
def State.noLock (s : State) : M Unit :=
  if s.ctx.lock then refuse .lockNotAccepted else .ok ()

/-- The instruction accepts LOCK with a memory operand only. -/
def State.lockMem (s : State) (rm : RM) : M Unit :=
  match rm with
  | .mem _ => .ok ()
  | .reg _ => s.noLock

/-! ### Addresses (rules R71, R72) -/

/-- The physical address of a linear address (rule R71). -/
def State.phys (s : State) (linear : Word) : Nat := linear.toNat % 2 ^ s.cfg.physAddrBits

/-- The physical address of byte `i` of an operand at `r:off` (rule R72, step 3). -/
def State.byteAddr (s : State) (r : SegReg) (off : Word) (i : Nat) : Nat :=
  s.phys ((s.seg r).base + (off + BitVec.ofNat 32 i))

/-- The physical addresses of the `n` bytes of an operand at `r:off`, in ascending significance (rule R72). -/
def State.addrs (s : State) (r : SegReg) (off : Word) (n : Nat) : List Nat :=
  (List.range n).map (s.byteAddr r off)

/-- The physical addresses of `n` bytes at a linear address, for table look-ups (rule R81). -/
def State.linearAddrs (s : State) (linear : Word) (n : Nat) : List Nat :=
  (List.range n).map fun i => s.phys (linear + BitVec.ofNat 32 i)

/-- What the host backs a physical address with, if with anything (rule R79). -/
def State.backing (s : State) (a : Nat) : Option RegionKind :=
  match s.cfg.memoryMap with
  | .allRam => some .ram
  | .regions rs => (rs.find? fun r => decide (r.base ≤ a ∧ a < r.base + r.size)).map (·.kind)

/-- Why an access to a physical address is refused, if it is: the host backs it with nothing (rule R79), or with the
window of a device, whose answers that rule leaves to the host (the refusal is a DESIGN CHOICE, log entry 31). -/
def State.accessRefusal (s : State) (a : Nat) : Option Refusal :=
  match s.backing a with
  | none => some .unbackedAddress
  | some .device => some .deviceWindow
  | some .ram => none
  | some .rom => none

/-- The refusal of an access to the addresses, if there is one: that of the first of them that has one (rule R79). Which
of two refusals is reported is the model's choice (DESIGN CHOICE, log entry 31). -/
def State.backRefusal (s : State) (as : List Nat) : Option Refusal := as.findSome? s.accessRefusal

/-- Refuse an access to an address the host does not back with memory (rule R79). -/
def State.checkBacked (s : State) (as : List Nat) : M Unit :=
  match s.backRefusal as with
  | some why => refuse why
  | none => .ok ()

/-- The host backs the physical address with ROM (rule R79). -/
def State.isRom (s : State) (a : Nat) : Bool := s.backing a == some .rom

/-! ### The checks of a memory operand (rules R72 to R76, R86) -/

/-- `Writable(ar)` (rule R72). -/
def Rights.writable (ar : Rights) : Bool :=
  match ar.kind with
  | .data w _ => w
  | _ => false

/-- `Readable(ar)` (rule R72). -/
def Rights.readable (ar : Rights) : Bool :=
  match ar.kind with
  | .data _ _ => true
  | .code r _ => r
  | .system => false

/-- The highest offset of an expand-down segment (rule R76). -/
def Rights.top (ar : Rights) : Nat := if ar.big then 0xFFFFFFFF else 0xFFFF

/-- `InLimit(r, off, n)` for n ≥ 1: without wrap (rules R74, R76). -/
def State.inLimit (s : State) (r : SegReg) (off : Word) (n : Nat) : Bool :=
  match s.mode with
  | .prot =>
    match (s.seg r).rights.kind with
    | .data _ true =>
      decide ((s.seg r).limit.toNat < off.toNat ∧ off.toNat + n - 1 ≤ (s.seg r).rights.top)
    | _ => decide (off.toNat + n - 1 ≤ (s.seg r).limit.toNat)
  | _ => decide (off.toNat + n - 1 ≤ 0xFFFF)

/-- Whether the segment register can hold a null selector whose use is a fault (rules R72, R86). -/
def nullable : SegReg → Bool
  | .cs => false
  | .ss => false
  | _ => true

/-- The two kinds of access. -/
inductive Access where
  | read
  | write
  deriving DecidableEq, Repr

/-- The segment's rights allow the access (rule R72, step 1). -/
def Rights.allows (ar : Rights) : Access → Bool
  | .read => ar.readable
  | .write => ar.writable

/-- The fault of an access to `n` bytes at `r:off`, if any: step 1, then step 2 of rule R72. -/
def State.accessFault (s : State) (k : Access) (r : SegReg) (off : Word) (n : Nat) : Option Fault :=
  if s.mode = .prot ∧ nullable r = true ∧ (s.seg r).valid = false then
    some (.exception .generalProtection (some 0))
  else if s.mode = .prot ∧ (s.seg r).rights.allows k = false then some (.exception .generalProtection (some 0))
  else if s.inLimit r off n then none
  else some (s.segFault r)

/-- Steps 1 and 2 of rule R72 alone, for an instruction that makes the checks of all its operands before its first
access. -/
def State.checkFault (s : State) (k : Access) (r : SegReg) (off : Word) (n : Nat) : M Unit :=
  match s.accessFault k r off n with
  | some f => .error (.fault f)
  | none => .ok ()

/-- The checks before an access: rule R72, steps 1 and 2, then rule R79. -/
def State.checkAccess (s : State) (k : Access) (r : SegReg) (off : Word) (n : Nat) : M Unit := do
  s.checkFault k r off n
  s.checkBacked (s.addrs r off n)

/-- The first `m` checks of a sequence, in order. -/
def checkEach (f : Nat → M Unit) : Nat → M Unit
  | 0 => .ok ()
  | m + 1 => do
    checkEach f m
    f m

/-! ### Reading and writing memory (rules R72, R73) -/

/-- The value of bytes in ascending significance: little-endian (rule R73). -/
def loadBytes (m : Memory) : List Nat → Nat
  | [] => 0
  | a :: as => (m.read a).toNat + 256 * loadBytes m as

/-- `MemRead(r:off, n)` after its checks, zero-extended (rule R72, step 3). -/
def State.load (s : State) (r : SegReg) (off : Word) (n : Nat) : Word :=
  BitVec.ofNat 32 (loadBytes s.mem (s.addrs r off n))

/-- An address noted as stored to (rule R93). -/
def noteStored (a : Nat) (as : List Nat) : List Nat := if a ∈ as then as else a :: as

/-- One byte stored. PRESUMED (log entry 31): a store to ROM completes and changes no byte. -/
def State.poke (s : State) (a : Nat) (b : Byte) : State :=
  { s with
    mem := if s.isRom a then s.mem else s.mem.write a b
    stored := if s.isRom a then s.stored else noteStored a s.stored }

/-- The bytes of a value stored at the addresses, least significant byte first (rule R73). -/
def State.pokes (s : State) : List Nat → Word → State
  | [], _ => s
  | a :: as, v => State.pokes (s.poke a (v.extractLsb' 0 8)) as (v >>> 8)

/-- `MemWrite(r:off, n, v)` after its checks (rule R72, step 3). -/
def State.store (s : State) (r : SegReg) (off : Word) (n : Nat) (v : Word) : State :=
  s.pokes (s.addrs r off n) v

/-- `MemRead(r:off, n)` with its checks (rule R72). -/
def State.memRead (s : State) (r : SegReg) (off : Word) (n : Nat) : M Word := do
  s.checkAccess .read r off n
  .ok (s.load r off n)

/-- `MemWrite(r:off, n, v)` with its checks (rule R72). -/
def State.memWrite (s : State) (r : SegReg) (off : Word) (n : Nat) (v : Word) : M State := do
  s.checkAccess .write r off n
  .ok (s.store r off n v)

/-! ### The stack (rules R320, R321, R330, R408) -/

/-- The stack pointer: SP or ESP (rule R37). -/
def State.sp (s : State) : Word := s.reg s.stackWidth .esp

/-- `SP <- v` or `ESP <- v` (rules R37, R22). -/
def State.setSp (s : State) (v : Word) : State := s.setReg s.stackWidth .esp v

/-- The stack offset `k` bytes above the top, modulo 2^`StackAddrSize` (rule R321). -/
def State.stackUp (s : State) (k : Nat) : Word := s.stackWidth.trunc (s.sp + BitVec.ofNat 32 k)

/-- The stack offset `k` bytes below the top, modulo 2^`StackAddrSize` (rule R320). -/
def State.stackDown (s : State) (k : Nat) : Word := s.stackWidth.trunc (s.sp - BitVec.ofNat 32 k)

/-- `StackPushFail` (rule R330). -/
def State.pushFault (s : State) : Fault :=
  match s.mode with
  | .prot => .exception .stackFault (some 0)
  | _ =>
    let sp := (s.reg .w16 .esp).toNat
    if sp = 1 ∨ sp = 3 ∨ sp = 5 then .shutdown else s.segFault .ss

/-- The room for an item of `n` bytes that starts `k` bytes below the top: the test of rule R320, else rule R330. -/
def State.checkPushRoom (s : State) (k n : Nat) : M Unit :=
  if (s.seg .ss).rights.writable && s.inLimit .ss (s.stackDown k) n then .ok () else .error (.fault s.pushFault)

/-- The refusal of the store of an item of `n` bytes that starts `k` bytes below the top (rule R79). -/
def State.checkPushBacked (s : State) (k n : Nat) : M Unit := s.checkBacked (s.addrs .ss (s.stackDown k) n)

/-- The check of a push whose item of `n` bytes starts `k` bytes below the top (rule R320). -/
def State.checkPush (s : State) (k n : Nat) : M Unit := do
  s.checkPushRoom k n
  s.checkPushBacked k n

/-- The checks of `m` pushes of `n` bytes: room for every item before the first store (rule R336). -/
def State.checkPushes (s : State) (n m : Nat) : M Unit := do
  checkEach (fun j => s.checkPushRoom ((j + 1) * n) n) m
  checkEach (fun j => s.checkPushBacked ((j + 1) * n) n) m

/-- The store and the new stack pointer of a push of `n` bytes (rule R320). -/
def State.pushed (s : State) (n : Nat) (v : Word) : State :=
  (s.store .ss (s.stackDown n) n v).setSp (s.stackDown n)

/-- `Push_N(v)`, N = 8n (rule R320). -/
def State.push (s : State) (n : Nat) (v : Word) : M State := do
  s.checkPush n n
  .ok (s.pushed n v)

/-- The stack item of `n` bytes, `k` bytes above the top, is in the limit: the test of rule R321. -/
def State.checkPopLimit (s : State) (k n : Nat) : M Unit :=
  if s.inLimit .ss (s.stackUp k) n then .ok () else .error (.fault (s.segFault .ss))

/-- The checks of the read of a stack item of `n` bytes, `k` bytes above the top: the limit, then rule R72
(rule R321). -/
def State.checkPop (s : State) (k n : Nat) : M Unit := do
  s.checkPopLimit k n
  s.checkAccess .read .ss (s.stackUp k) n

/-- The checks of the reads of `m` stack items of `n` bytes: the limit of every item before the first read
(rules R337, R402). -/
def State.checkPops (s : State) (n m : Nat) : M Unit := do
  checkEach (fun j => s.checkPopLimit (j * n) n) m
  checkEach (fun j => s.checkPop (j * n) n) m

/-- The stack item of `n` bytes, `k` bytes above the top (rule R321). -/
def State.item (s : State) (k n : Nat) : Word := s.load .ss (s.stackUp k) n

/-- The stack pointer raised by `k` bytes (rules R321, R408). -/
def State.popped (s : State) (k : Nat) : State := s.setSp (s.stackUp k)

/-! ### Descriptors and segment loads (rules R80 to R87) -/

/-- Bits 15:2 of the selector are zero: a null selector (rules R81, R83). -/
def isNull (sel : Half) : Bool := sel.extractLsb' 2 14 == 0

/-- The RPL of a selector (rule R81). -/
def rplOf (sel : Half) : BitVec 2 := sel.extractLsb' 0 2

/-- The base and limit of the table a selector names, if there is one (rule R81). -/
def State.tableOf (s : State) (sel : Half) : Option (Word × Nat) :=
  if sel.getLsbD 2 then
    if isNull s.ldtr.sel then none else some (s.ldtr.base, s.ldtr.limit.toNat)
  else some (s.gdtr.base, s.gdtr.limit.toNat)

/-- The eight bytes of a descriptor, as the number they are in little-endian order, decoded (rule R81). -/
def decodeDescriptor (d : BitVec 64) : Descriptor :=
  let raw : Word := (d.extractLsb' 48 4 ++ d.extractLsb' 0 16).setWidth 32
  { base := d.extractLsb' 56 8 ++ d.extractLsb' 16 24
    limit := if d.getLsbD 55 then (raw <<< 12) ||| 0xFFF else raw
    rights :=
      { kind :=
          if d.getLsbD 44 then
            if d.getLsbD 43 then .code (d.getLsbD 41) (d.getLsbD 42) else .data (d.getLsbD 41) (d.getLsbD 42)
          else .system
        dpl := d.extractLsb' 45 2
        present := d.getLsbD 47
        big := d.getLsbD 54 } }

/-- `ReadDescriptor(sel)` by its definition over memory; `none` is `OutOfTable` (rule R81). -/
def State.lookUp (s : State) (sel : Half) : M (Option Descriptor) :=
  let index := (sel.extractLsb' 3 13).toNat * 8
  match s.tableOf sel with
  | none => .ok none
  | some (base, limit) =>
    if index + 7 ≤ limit then do
      let as := s.linearAddrs (base + BitVec.ofNat 32 index) 8
      s.checkBacked as
      .ok (some (decodeDescriptor (BitVec.ofNat 64 (loadBytes s.mem as))))
    else .ok none

/-- `ReadDescriptor(sel)`: the look-up of rule R81, or the host's function in its place (rules R5, R80). -/
def State.readDescriptor (s : State) (sel : Half) : M (Option Descriptor) :=
  match s.cfg.descriptorReader with
  | .standard => s.lookUp sel
  | .host => .ok (Config.hostDescriptor s.gdtr s.ldtr s.mem sel)

/-- `ReadDescriptor(sel)` where `OutOfTable` raises #GP(sel) (rules R83, R84, R405). -/
def State.descriptor (s : State) (sel : Half) : M Descriptor := do
  match ← s.readDescriptor sel with
  | some d => .ok d
  | none => raiseGPSel sel

/-- The descriptor is of a code segment (rule R405). -/
def Descriptor.isCode (d : Descriptor) : Bool :=
  match d.rights.kind with
  | .code _ _ => true
  | _ => false

/-- The descriptor is of a conforming code segment (rule R82). -/
def Descriptor.conforming (d : Descriptor) : Bool :=
  match d.rights.kind with
  | .code _ c => c
  | _ => false

/-- `DataPrivOK(d, rpl, cpl)` (rule R82). -/
def Descriptor.dataPrivOK (d : Descriptor) (rpl cpl : BitVec 2) : Bool :=
  d.conforming || (decide (rpl.toNat ≤ d.rights.dpl.toNat) && decide (cpl.toNat ≤ d.rights.dpl.toNat))

/-- A segment register with selector and descriptor loaded (rules R83, R84). -/
def segmentOf (sel : Half) (d : Descriptor) : Segment :=
  { sel := sel, valid := true, base := d.base, limit := d.limit, rights := d.rights }

/-- A segment register as a load in real-address or virtual 8086 mode leaves it (rules R74, R85). -/
def realSegment (sel : Half) : Segment :=
  { sel := sel, valid := true, base := sel.setWidth 32 <<< 4, limit := 0xFFFF, rights := realRights }

/-- `LoadSS(sel)` in protected mode (rule R83). -/
def State.loadSS (s : State) (sel : Half) : M State := do
  if isNull sel then raiseGP0
  let d ← s.descriptor sel
  if rplOf sel ≠ s.cpl then raiseGPSel sel
  if d.rights.writable = false then raiseGPSel sel
  if d.rights.dpl ≠ s.cpl then raiseGPSel sel
  if d.rights.present = false then raise .stackFault (some (errSel sel))
  .ok (s.setSeg .ss (segmentOf sel d))

/-- `LoadDataSeg(r, sel)` in protected mode (rules R84, R86). -/
def State.loadDataSeg (s : State) (r : SegReg) (sel : Half) : M State :=
  if isNull sel then .ok (s.setSeg r { s.seg r with sel := sel, valid := false })
  else do
    let d ← s.descriptor sel
    if d.rights.readable = false then raiseGPSel sel
    if d.dataPrivOK (rplOf sel) s.cpl = false then raiseGPSel sel
    if d.rights.present = false then raiseNPSel sel
    .ok (s.setSeg r (segmentOf sel d))

/-- A load of ES, SS, DS, FS or GS, in any mode (rules R205, R326). -/
def State.loadSeg (s : State) (r : SegReg) (sel : Half) : M State :=
  match s.mode, r with
  | .prot, .ss => s.loadSS sel
  | .prot, r => s.loadDataSeg r sel
  | _, r => .ok (s.setSeg r (realSegment sel))

/-- What `InhibitInt` becomes when a load of the segment register completes (rules R41, R208, R328). -/
def inhibitAfterLoad : SegReg → Inhibit
  | .ss => .all
  | _ => .none

/-! ### Control transfer (rule R404) -/

/-- The limit of the current code segment for fetches and targets (rules R74, R404). -/
def State.codeLimit (s : State) : Nat :=
  match s.mode with
  | .prot => s.segs.cs.limit.toNat
  | _ => 0xFFFF

/-- The fault of a target or a fetch outside the code segment (rule R404). -/
def State.codeFault (s : State) : Fault := .exception .generalProtection s.zeroCode

/-- `pc <- t` by a control transfer that completes: the prefetch queue is flushed (rules R7, R93). -/
def State.jumpTo (s : State) (t : Word) : State :=
  { s with eip := t, eipCarry := false, ctx := {}, inhibit := .none, stored := [] }

/-- The transfer to `t` in the current code segment, with its limit check (rule R404). -/
def State.jump (s : State) (t : Word) : M State :=
  if t.toNat ≤ s.codeLimit then .ok (s.jumpTo t) else .error (.fault s.codeFault)

/-! ### I/O (rules R95 to R97) -/

/-- The I/O map bit of a port denies the access: the bit is 1, or its byte or the word that locates the map lies
beyond the TSS limit (rule R97; log entry 14 for that word). -/
def State.portDenied (s : State) (mapBase port : Nat) : Bool :=
  if s.taskr.limit.toNat < mapBase + port / 8 then true
  else (s.mem.read (s.phys (s.taskr.base + BitVec.ofNat 32 (mapBase + port / 8)))).getLsbD (port % 8)

/-- `IOPermission(port, n)` by the bit map of the current TSS: the default definition of rule R97. DESIGN CHOICE (log
entry 20): rule R79 does not say where its refusal stands against a denial. A limit that cuts off the word at 66H denies;
then a byte of that word that is not backed with memory refuses; then a limit that cuts off the map byte of any of the
ports denies; then a byte of any of them that is not backed with memory refuses; then a bit that is 1 denies. -/
def State.tssPermission (s : State) (port n : Nat) : M Bool :=
  if s.taskr.limit.toNat < 0x67 then .ok false
  else do
    let word := s.linearAddrs (s.taskr.base + 0x66) 2
    s.checkBacked word
    let mapBase := loadBytes s.mem word
    let ports := (List.range n).map (port + ·)
    let bytes := ports.map fun p => s.phys (s.taskr.base + BitVec.ofNat 32 (mapBase + p / 8))
    if ports.all fun p => decide (mapBase + p / 8 ≤ s.taskr.limit.toNat) then s.checkBacked bytes
    .ok (ports.all fun p => !s.portDenied mapBase p)

/-- `IOPermission(port, n)`: the bit map of rule R97, or the host's predicate in its place (rules R5, R97). -/
def State.ioPermission (s : State) (port n : Nat) : M Bool :=
  match s.cfg.ioPermission with
  | .tssMap => s.tssPermission port n
  | .host => .ok (Config.hostIoPermission s.taskr s.mem port n)

/-- The I/O protection check (rules R97, R304). -/
def State.checkIo (s : State) (port n : Nat) : M Unit :=
  if s.mode = .v86 ∨ (s.mode = .prot ∧ s.flags.iopl.toNat < s.cpl.toNat) then do
    if ← s.ioPermission port n then .ok () else raiseGP0
  else .ok ()

/-- A transfer does not run past port 65535 (rule R96). -/
def checkPortRange (port n : Nat) : M Unit :=
  if port + n - 1 ≤ 0xFFFF then .ok () else refuse .portRange

/-- The host receives an I/O event (rule R96). -/
def State.emit (s : State) (port : Half) (w : Width) (v : Word) : State :=
  { s with ioOut := s.ioOut ++ [{ port := port, width := w, value := v }] }

/-- `IoWrite(port, n, v)` (rule R96). -/
def State.ioWrite (s : State) (port : Half) (w : Width) (v : Word) : M State := do
  s.checkIo port.toNat w.bytes
  checkPortRange port.toNat w.bytes
  .ok (s.emit port w v)

/-! ### Repetition (rules R240 to R244) -/

/-- The count register: CX or ECX (rule R240). -/
def State.count (s : State) : Word := s.reg s.addrWidth .ecx

/-- The count register decremented (rule R240). -/
def State.countDown (s : State) : State := s.setReg s.addrWidth .ecx (s.addrWidth.trunc (s.count - 1))

/-- One step of a string instruction: once without a repeat prefix, else one iteration (rule R240). `stops` is
`Terminate` of rule R242. -/
def State.repeated (s : State) (stops : RepPrefix → State → Bool) (body : State → M State) : M State :=
  match s.ctx.rep with
  | none => do .ok (← body s).retire
  | some p =>
    if s.count = 0 then .ok s.retire
    else do
      let t := (← body s).countDown
      if t.count = 0 ∨ stops p t = true then .ok t.retire else .ok t.again

/-- `Terminate` of MOVS, STOS and OUTS (rule R242). -/
def neverStops (_ : RepPrefix) (_ : State) : Bool := false

/-- `Terminate` of SCAS (rule R242). -/
def stopsOnZf (p : RepPrefix) (s : State) : Bool :=
  match p with
  | .repe => !s.flags.zf
  | .repne => s.flags.zf

/-- `IncDec` applied to an index register (rule R235). -/
def State.advance (s : State) (r : Reg) (w : Width) : State :=
  let i := s.reg s.addrWidth r
  let d := BitVec.ofNat 32 w.bytes
  s.setReg s.addrWidth r (s.addrWidth.trunc (if s.flags.df then i - d else i + d))

/-! ### When the host may deliver an interrupt (rules R41, R620) -/

/-- A maskable interrupt may be taken before the next instruction. -/
def State.mayTakeIntr (s : State) : Bool := s.flags.ifl && s.inhibit == .none

/-- NMI may be taken before the next instruction. -/
def State.mayTakeNmi (s : State) : Bool := s.inhibit != .all

/-- An interrupt arrives before the next instruction and may be taken (rule R620). -/
def State.takesInterrupt (s : State) : Bool :=
  (s.nmiPending && s.mayTakeNmi) || (s.intrPending && s.mayTakeIntr)

end Sys2Proof.Machine
end

