-- ==== Sys2Proof/Machine/Flags.lean ====
section
/-! DEFINITION. Flag computations (rules R9, R262, R338, R340, R370 to R372, R433) and the arithmetic they belong to. An
undefined flag takes its own bit of a free value, at the flag's place in EFLAGS (rules R12, R26). -/

namespace Sys2Proof.Machine

/-- `Parity8(r)`: the low eight bits hold an even number of 1 bits (rule R9). -/
def parity8 (r : Word) : Bool :=
  !(r.getLsbD 0 ^^ r.getLsbD 1 ^^ r.getLsbD 2 ^^ r.getLsbD 3 ^^
    r.getLsbD 4 ^^ r.getLsbD 5 ^^ r.getLsbD 6 ^^ r.getLsbD 7)

/-- `SetSZP_N(r)` (rule R9). -/
def Flags.setSZP (f : Flags) (w : Width) (r : Word) : Flags :=
  { f with sf := w.msb r, zf := r == 0, pf := parity8 r }

/-- The machine with new flags. -/
def State.setFlags (s : State) (f : Flags) : State := { s with flags := f }

/-- What `Sub_N` returns (rule R9). -/
structure Difference where
  r : Word
  cf : Bool
  ofl : Bool
  af : Bool
  deriving DecidableEq, Repr

/-- `Sub_N(a, b, c)` of N-bit values and a borrow (rule R9). -/
def subtract (w : Width) (a b : Word) (c : Bool) : Difference :=
  let cn := c.toNat
  let exact := w.signed a - w.signed b - (cn : Int)
  { r := w.trunc (a - b - BitVec.ofNat 32 cn)
    cf := decide (a.toNat < b.toNat + cn)
    ofl := decide (exact < -(2 ^ (w.bits - 1) : Int) ∨ (2 ^ (w.bits - 1) : Int) ≤ exact)
    af := decide (a.toNat % 16 < b.toNat % 16 + cn) }

/-- The six status flags of a subtraction (rules R231, R266, R267). -/
def Flags.ofDifference (f : Flags) (w : Width) (d : Difference) : Flags :=
  { f.setSZP w d.r with cf := d.cf, ofl := d.ofl, af := d.af }

/-- The flags of a logical result, AF drawn (rule R262). -/
def Flags.logic (f : Flags) (w : Width) (r draw : Word) : Flags :=
  { f.setSZP w r with cf := false, ofl := false, af := draw.getLsbD 4 }

/-- The six status flags, each undefined (rule R209). -/
def Flags.undefined (f : Flags) (draw : Word) : Flags :=
  { f with cf := draw.getLsbD 0, pf := draw.getLsbD 2, af := draw.getLsbD 4, zf := draw.getLsbD 6,
           sf := draw.getLsbD 7, ofl := draw.getLsbD 11 }

/-- The flags of MUL: CF and OF say whether the upper half is not zero, the others are undefined (rule R260). -/
def Flags.mul (f : Flags) (upper draw : Word) : Flags :=
  { f.undefined draw with cf := upper != 0, ofl := upper != 0 }

/-- The flags of NEG, AF drawn (rule R263). -/
def Flags.neg (f : Flags) (w : Width) (a : Word) (d : Difference) (draw : Word) : Flags :=
  { f.setSZP w d.r with cf := a != 0, ofl := d.ofl, af := draw.getLsbD 4 }

/-! ### Shifts and rotates (45_shift_rotate.md) -/

/-- The seven group 2 instructions (rule R360). -/
inductive Shift where
  | rol
  | ror
  | rcl
  | rcr
  | shl
  | shr
  | sar
  deriving DecidableEq, Repr

/-- The instruction is a rotate (rule R370). -/
def Shift.isRotate : Shift → Bool
  | .rol => true
  | .ror => true
  | .rcl => true
  | .rcr => true
  | _ => false

/-- A bit at place N - 1. -/
def Width.topBit (w : Width) (b : Bool) : Word := if b then 1 <<< (w.bits - 1) else 0

/-- A bit at place 0. -/
def bit0 (b : Bool) : Word := if b then 1 else 0

/-- One turn of the instruction's loop on the operand and CF (rules R361 to R367). -/
def Shift.once (k : Shift) (w : Width) (a : Word) (cf : Bool) : Word × Bool :=
  match k with
  | .rol => (w.trunc ((a <<< 1) ||| bit0 (w.msb a)), w.msb a)
  | .ror => ((a >>> 1) ||| w.topBit (a.getLsbD 0), a.getLsbD 0)
  | .rcl => (w.trunc ((a <<< 1) ||| bit0 cf), w.msb a)
  | .rcr => ((a >>> 1) ||| w.topBit cf, a.getLsbD 0)
  | .shl => (w.trunc (a <<< 1), w.msb a)
  | .shr => (a >>> 1, a.getLsbD 0)
  | .sar => ((a >>> 1) ||| w.topBit (w.msb a), a.getLsbD 0)

/-- The loop run `n` times (rules R361 to R367). -/
def Shift.loop (k : Shift) (w : Width) : Nat → Word → Bool → Word × Bool
  | 0, a, cf => (a, cf)
  | n + 1, a, cf => Shift.loop k w n (k.once w a cf).1 (k.once w a cf).2

/-- OF when COUNT = 1, from the operand, the result and the new CF (rule R371). -/
def Shift.overflow (k : Shift) (w : Width) (a r : Word) (cf : Bool) : Bool :=
  match k with
  | .rol => w.msb r ^^ cf
  | .rcl => w.msb r ^^ cf
  | .shl => w.msb r ^^ cf
  | .ror => w.msb r ^^ r.getLsbD (w.bits - 2)
  | .rcr => w.msb r ^^ r.getLsbD (w.bits - 2)
  | .shr => w.msb a
  | .sar => false

/-- The flags of a shift or rotate by `count` of operand `a` with result `r` and new carry `cf` (rules R370 to
R372). -/
def Flags.shift (f : Flags) (k : Shift) (w : Width) (count : Nat) (a r : Word) (cf : Bool) (draw : Word) : Flags :=
  let ofl := if count = 1 then k.overflow w a r cf else draw.getLsbD 11
  if k.isRotate then { f with cf := cf, ofl := ofl }
  else if count = 0 then
    { f with ofl := ofl, sf := draw.getLsbD 7, zf := draw.getLsbD 6, pf := draw.getLsbD 2, af := draw.getLsbD 4 }
  else { f.setSZP w r with cf := cf, ofl := ofl, af := draw.getLsbD 4 }

/-- The flags of SHLD and SHRD for a count from 1 to N - 1: AF and OF drawn (rule R368). -/
def Flags.doubleShift (f : Flags) (w : Width) (r : Word) (cf : Bool) (draw : Word) : Flags :=
  { f.setSZP w r with cf := cf, af := draw.getLsbD 4, ofl := draw.getLsbD 11 }

/-! ### Conditions (rules R125, R433) -/

/-- The even condition codes `ttt0`. -/
def Flags.condEven (f : Flags) (ttt : Nat) : Bool :=
  match ttt with
  | 0 => f.ofl
  | 1 => f.cf
  | 2 => f.zf
  | 3 => f.cf || f.zf
  | 4 => f.sf
  | 5 => f.pf
  | 6 => f.sf ^^ f.ofl
  | _ => (f.sf ^^ f.ofl) || f.zf

/-- `Cond(tttn)`: `n` = 1 negates the condition (rule R433). -/
def Flags.cond (f : Flags) (tttn : BitVec 4) : Bool :=
  f.condEven (tttn.toNat / 2) ^^ tttn.getLsbD 0

/-! ### The flags image (rules R26, R338, R340, R431) -/

/-- A bit at place `n`. -/
def bitAt (n : Nat) (b : Bool) : Word := bit0 b <<< n

/-- The reserved bits 1, 3, 5, 15 and 31:18 of EFLAGS (rule R26). -/
def reservedFlags : Word := 0xFFFC802A

/-- The image PUSHF and PUSHFD store: the named flags as held, the reserved bits drawn (rule R338). -/
def Flags.image (f : Flags) (c : Config) (draw : Word) : Word :=
  bitAt 0 f.cf ||| bitAt 2 f.pf ||| bitAt 4 f.af ||| bitAt 6 f.zf ||| bitAt 7 f.sf ||| bitAt 8 f.tf |||
    bitAt 9 f.ifl ||| bitAt 10 f.df ||| bitAt 11 f.ofl ||| (f.iopl.setWidth 32 <<< 12) ||| bitAt 14 f.nt |||
    bitAt c.rfBit f.rf ||| bitAt c.vmBit f.vm ||| (draw &&& reservedFlags)

/-- The flags POPF and POPFD load from an image, with leave to change IF and IOPL or not (rule R340). -/
def Flags.popped (f : Flags) (v : Word) (mayIf mayIopl : Bool) : Flags :=
  { f with
    cf := v.getLsbD 0, pf := v.getLsbD 2, af := v.getLsbD 4, zf := v.getLsbD 6, sf := v.getLsbD 7,
    tf := v.getLsbD 8, df := v.getLsbD 10, ofl := v.getLsbD 11, nt := v.getLsbD 14,
    ifl := if mayIf then v.getLsbD 9 else f.ifl
    iopl := if mayIopl then v.extractLsb' 12 2 else f.iopl }

/-- The flags SAHF loads from AH (rule R431). -/
def Flags.sahf (f : Flags) (ah : Word) : Flags :=
  { f with sf := ah.getLsbD 7, zf := ah.getLsbD 6, af := ah.getLsbD 4, pf := ah.getLsbD 2, cf := ah.getLsbD 0 }

end Sys2Proof.Machine
end

