-- ==== Sys2Proof/Machine/Operands.lean ====
section
/-! DEFINITION. Operand forms: effective addresses (rules R130 to R133), the helpers of rule R200, and the two-operand
forms of rule R261 over the function they apply. -/

namespace Sys2Proof.Machine

/-! ### Effective addresses -/

/-- A 16-bit register as an address component (rule R130). -/
def State.half (s : State) (r : Reg) : BitVec 16 := (s.regs.get r).extractLsb' 0 16

/-- The register base of 16-bit addressing (rule R130). -/
def State.base16 (s : State) : Base16 → BitVec 16
  | .bxsi => s.half .ebx + s.half .esi
  | .bxdi => s.half .ebx + s.half .edi
  | .bpsi => s.half .ebp + s.half .esi
  | .bpdi => s.half .ebp + s.half .edi
  | .si => s.half .esi
  | .di => s.half .edi
  | .bp => s.half .ebp
  | .bx => s.half .ebx

/-- The default segment of a 16-bit register base (rule R130). -/
def segOfBase16 : Base16 → SegReg
  | .bpsi => .ss
  | .bpdi => .ss
  | .bp => .ss
  | _ => .ds

/-- The displacement of 16-bit addressing; a byte is sign-extended (rule R130). -/
def disp16 : Disp16 → BitVec 16
  | .none => 0
  | .d8 d => d.signExtend 16
  | .d16 d => d

/-- The displacement of 32-bit addressing; a byte is sign-extended (rule R133). -/
def disp32 : Disp32 → Word
  | .none => 0
  | .d8 d => d.signExtend 32
  | .d32 d => d

/-- The default segment of a 32-bit register base (rules R131, R132). -/
def segOfBase32 : Reg → SegReg
  | .ebp => .ss
  | .esp => .ss
  | _ => .ds

/-- The scaled index (rule R132). -/
def State.scaledIndex (s : State) (sc : Scale) : Option Reg → Word
  | none => 0
  | some r => s.regs.get r <<< sc.code.toNat

/-- The effective address of a memory operand, zero-extended (rules R130, R133). -/
def State.effOff (s : State) : Mem → Word
  | .direct16 off => off.setWidth 32
  | .base16 b d => (s.base16 b + disp16 d).setWidth 32
  | .direct32 off => off
  | .base32 b d => s.regs.get b + disp32 d
  | .sib sc idx b d => s.regs.get b + s.scaledIndex sc idx + disp32 d
  | .sibNoBase sc idx off => s.scaledIndex sc idx + off

/-- The default segment of a memory operand (rules R130 to R132). -/
def defaultSeg : Mem → SegReg
  | .direct16 _ => .ds
  | .base16 b _ => segOfBase16 b
  | .direct32 _ => .ds
  | .base32 b _ => segOfBase32 b
  | .sib _ _ b _ => segOfBase32 b
  | .sibNoBase _ _ _ => .ds

/-- The segment of an operand: the override if there is one, else the default (rule R120). -/
def State.segOr (s : State) (dflt : SegReg) : SegReg := s.ctx.seg.getD dflt

/-- An operand with its address computed: `Reg(n)` or `Mem(seg, off)` (rule R200). -/
inductive Place where
  | reg (r : Reg)
  | mem (seg : SegReg) (off : Word)
  deriving DecidableEq, Repr

/-- The operand a mod r/m byte names (rules R120, R134, R200). -/
def State.place (s : State) : RM → Place
  | .reg r => .reg r
  | .mem m => .mem (s.segOr (defaultSeg m)) (s.effOff m)

/-- The operand is memory addressed with base ESP (rule R324). -/
def espBased : RM → Bool
  | .mem (.sib _ _ .esp _) => true
  | _ => false

/-! ### The helpers of rule R200 -/

/-- The checks of an operand by steps 1 and 2 of rule R72 alone, for an instruction with two memory operands. -/
def State.checkOperand (s : State) (k : Access) (w : Width) : Place → M Unit
  | .reg _ => .ok ()
  | .mem g off => s.checkFault k g off w.bytes

/-- The checks before reading an operand. -/
def State.checkRead (s : State) (w : Width) : Place → M Unit
  | .reg _ => .ok ()
  | .mem g off => s.checkAccess .read g off w.bytes

/-- `CheckWrite_N(op)`. -/
def State.checkWrite (s : State) (w : Width) : Place → M Unit
  | .reg _ => .ok ()
  | .mem g off => s.checkAccess .write g off w.bytes

/-- The checks of a read and of a write operand of one instruction: the faults of both before the first access
(rules R230, R323). -/
def State.checkTwo (s : State) (w : Width) (src dst : Place) : M Unit := do
  s.checkOperand .read w src
  s.checkOperand .write w dst
  s.checkRead w src
  s.checkWrite w dst

/-- `ReadOp_N(op)` after its checks. -/
def State.readAt (s : State) (w : Width) : Place → Word
  | .reg r => s.reg w r
  | .mem g off => s.load g off w.bytes

/-- `WriteOp_N(op, v)` after its checks. -/
def State.writeAt (s : State) (w : Width) (p : Place) (v : Word) : State :=
  match p with
  | .reg r => s.setReg w r v
  | .mem g off => s.store g off w.bytes v

/-- `ReadOp_N(op)` with its checks. -/
def State.readRM (s : State) (w : Width) (rm : RM) : M Word := do
  s.checkRead w (s.place rm)
  .ok (s.readAt w (s.place rm))

/-- `WriteOp_N(op, v)` with its checks, ending the instruction. -/
def State.writeRM (s : State) (w : Width) (rm : RM) (v : Word) : M State := do
  s.checkWrite w (s.place rm)
  .ok (s.writeAt w (s.place rm) v).retire

/-! ### Two-operand and one-operand forms -/

/-- A function of two operands: the result, and the state with the flags it sets. -/
abbrev Binary := Width → Word → Word → State → Word × State

/-- A function of one operand: the result, and the state with the flags it sets. -/
abbrev Unary := Width → Word → State → Word × State

/-- The forms whose destination is the r/m operand: the write check stands for both accesses (rules R78, R261). -/
def State.modifyRM (s : State) (w : Width) (rm : RM) (f : Word → State → Word × State) : M State := do
  let p := s.place rm
  s.checkWrite w p
  let (r, t) := f (s.readAt w p) s
  .ok (t.writeAt w p r).retire

/-- The form r/m, register: `00nnn00w` (rule R261); LOCK is accepted with memory (rule R270). -/
def State.rmReg (s : State) (f : Binary) (w : Width) (rm : RM) (r : Reg) : M State := do
  s.lockMem rm
  s.modifyRM w rm fun a => f w a (s.reg w r)

/-- The forms r/m, immediate: `80`, `81`, `83` (rule R261); LOCK is accepted with memory (rule R270). -/
def State.rmImm (s : State) (f : Binary) (w : Width) (rm : RM) (imm : Word) : M State := do
  s.lockMem rm
  s.modifyRM w rm fun a => f w a imm

/-- The form register, r/m: `00nnn01w` (rule R261). -/
def State.regRm (s : State) (f : Binary) (w : Width) (rm : RM) (r : Reg) : M State := do
  s.noLock
  let b ← s.readRM w rm
  let (v, t) := f w (s.reg w r) b s
  .ok (t.setReg w r v).retire

/-- The form accumulator, immediate: `00nnn10w` (rule R261). -/
def State.accImm (s : State) (f : Binary) (w : Width) (imm : Word) : M State := do
  s.noLock
  let (v, t) := f w (s.reg w .eax) imm s
  .ok (t.setReg w .eax v).retire

/-- The one-operand forms of group 3 that accept LOCK with memory: NEG and NOT (rules R263, R264, R270). -/
def State.rmUnary (s : State) (f : Unary) (w : Width) (rm : RM) : M State := do
  s.lockMem rm
  s.modifyRM w rm (f w)

/-- The source and destination operands of a string instruction (rule R235). -/
def State.stringSrc (s : State) : Place := .mem (s.segOr .ds) (s.reg s.addrWidth .esi)

/-- ES:(E)DI (rule R235). -/
def State.stringDst (s : State) : Place := .mem .es (s.reg s.addrWidth .edi)

end Sys2Proof.Machine
end

