-- ==== Sys2Proof/Machine/Arith.lean ====
section
/-! DEFINITION. MUL, NEG, NOT, OR, SBB, SUB, TEST and XOR (42_arith_logic.md). -/

namespace Sys2Proof.Machine

/-- The state with the flags of a logical result (rule R262). -/
def State.logicFlags (s : State) (w : Width) (r : Word) : State :=
  (s.setFlags (s.flags.logic w r s.nextDraw)).drawn

/-- OR (rules R262, R265). -/
def orOp : Binary := fun w a b s => (a ||| b, s.logicFlags w (a ||| b))

/-- XOR (rules R262, R268). -/
def xorOp : Binary := fun w a b s => (a ^^^ b, s.logicFlags w (a ^^^ b))

/-- A subtraction with its six flags (rules R266, R267). -/
def State.subtracted (s : State) (w : Width) (d : Difference) : Word × State :=
  (d.r, s.setFlags (s.flags.ofDifference w d))

/-- SUB (rule R267). -/
def subOp : Binary := fun w a b s => s.subtracted w (subtract w a b false)

/-- SBB: CF is read before any flag is written (rule R266). -/
def sbbOp : Binary := fun w a b s => s.subtracted w (subtract w a b s.flags.cf)

/-- NOT changes no flag (rule R264). -/
def notOp : Unary := fun w a s => (w.trunc (~~~a), s)

/-- NEG (rule R263). -/
def negOp : Unary := fun w a s =>
  let d := subtract w 0 a false
  (d.r, (s.setFlags (s.flags.neg w a d s.nextDraw)).drawn)

/-- TEST of an r/m operand and a value: only the flags change (rule R269). -/
def State.testRM (s : State) (w : Width) (rm : RM) (b : Word) : M State := do
  s.noLock
  let a ← s.readRM w rm
  .ok (s.logicFlags w (a &&& b)).retire

/-- TEST of the accumulator and a value (rule R269). -/
def State.testAcc (s : State) (w : Width) (b : Word) : M State := do
  s.noLock
  .ok (s.logicFlags w (s.reg w .eax &&& b)).retire

/-- The 2N-bit product in AX, DX:AX or EDX:EAX (rule R260). -/
def State.setProduct (s : State) (w : Width) (p : Nat) : State :=
  match w with
  | .b8 => s.setReg .w16 .eax (BitVec.ofNat 32 p)
  | w => (s.setReg w .edx (BitVec.ofNat 32 (p / 2 ^ w.bits))).setReg w .eax (BitVec.ofNat 32 p)

/-- MUL of the accumulator by a value (rule R260). -/
def State.mulAcc (s : State) (w : Width) (m : Word) : State :=
  let p := (s.reg w .eax).toNat * m.toNat
  ((s.setProduct w p).setFlags (s.flags.mul (BitVec.ofNat 32 (p / 2 ^ w.bits)) s.nextDraw)).drawn

/-- MUL (rule R260). -/
def State.mulRM (s : State) (w : Width) (rm : RM) : M State := do
  s.noLock
  let m ← s.readRM w rm
  .ok (s.mulAcc w m).retire

/-- OR r/m8, r8 (rules R261, R265). -/
def execOrRm8R8 (rm : RM) (r : Reg) (s : State) : Result := outcome (s.rmReg orOp .b8 rm r)

/-- OR r/m, r at `OpSize` (rules R261, R265). -/
def execOrRmvRv (rm : RM) (r : Reg) (s : State) : Result := outcome (s.rmReg orOp s.opWidth rm r)

/-- OR r8, r/m8 (rules R261, R265). -/
def execOrR8Rm8 (rm : RM) (r : Reg) (s : State) : Result := outcome (s.regRm orOp .b8 rm r)

/-- OR r, r/m at `OpSize` (rules R261, R265). -/
def execOrRvRmv (rm : RM) (r : Reg) (s : State) : Result := outcome (s.regRm orOp s.opWidth rm r)

/-- OR AL, imm8 (rules R261, R265). -/
def execOrAlImm8 (imm : BitVec 8) (s : State) : Result := outcome (s.accImm orOp .b8 (imm.setWidth 32))

/-- OR (E)AX, imm (rules R261, R265). -/
def execOrAxImmv (imm : BitVec 32) (s : State) : Result := outcome (s.accImm orOp s.opWidth imm)

/-- OR r/m8, imm8 (rules R261, R265). -/
def execOrRm8Imm8 (rm : RM) (imm : BitVec 8) (s : State) : Result := outcome (s.rmImm orOp .b8 rm (imm.setWidth 32))

/-- OR r/m, imm at `OpSize` (rules R261, R265). -/
def execOrRmvImmv (rm : RM) (imm : BitVec 32) (s : State) : Result := outcome (s.rmImm orOp s.opWidth rm imm)

/-- OR r/m, sign-extended imm8 (rules R261, R265). -/
def execOrRmvImm8 (rm : RM) (imm : BitVec 8) (s : State) : Result :=
  outcome (s.rmImm orOp s.opWidth rm (s.opWidth.sext8 imm))

/-- SBB r/m8, r8 (rules R261, R266). -/
def execSbbRm8R8 (rm : RM) (r : Reg) (s : State) : Result := outcome (s.rmReg sbbOp .b8 rm r)

/-- SBB r/m, r at `OpSize` (rules R261, R266). -/
def execSbbRmvRv (rm : RM) (r : Reg) (s : State) : Result := outcome (s.rmReg sbbOp s.opWidth rm r)

/-- SBB r8, r/m8 (rules R261, R266). -/
def execSbbR8Rm8 (rm : RM) (r : Reg) (s : State) : Result := outcome (s.regRm sbbOp .b8 rm r)

/-- SBB r, r/m at `OpSize` (rules R261, R266). -/
def execSbbRvRmv (rm : RM) (r : Reg) (s : State) : Result := outcome (s.regRm sbbOp s.opWidth rm r)

/-- SBB AL, imm8 (rules R261, R266). -/
def execSbbAlImm8 (imm : BitVec 8) (s : State) : Result := outcome (s.accImm sbbOp .b8 (imm.setWidth 32))

/-- SBB (E)AX, imm (rules R261, R266). -/
def execSbbAxImmv (imm : BitVec 32) (s : State) : Result := outcome (s.accImm sbbOp s.opWidth imm)

/-- SBB r/m8, imm8 (rules R261, R266). -/
def execSbbRm8Imm8 (rm : RM) (imm : BitVec 8) (s : State) : Result := outcome (s.rmImm sbbOp .b8 rm (imm.setWidth 32))

/-- SBB r/m, imm at `OpSize` (rules R261, R266). -/
def execSbbRmvImmv (rm : RM) (imm : BitVec 32) (s : State) : Result := outcome (s.rmImm sbbOp s.opWidth rm imm)

/-- SBB r/m, sign-extended imm8 (rules R261, R266). -/
def execSbbRmvImm8 (rm : RM) (imm : BitVec 8) (s : State) : Result :=
  outcome (s.rmImm sbbOp s.opWidth rm (s.opWidth.sext8 imm))

/-- SUB r/m8, r8 (rules R261, R267). -/
def execSubRm8R8 (rm : RM) (r : Reg) (s : State) : Result := outcome (s.rmReg subOp .b8 rm r)

/-- SUB r/m, r at `OpSize` (rules R261, R267). -/
def execSubRmvRv (rm : RM) (r : Reg) (s : State) : Result := outcome (s.rmReg subOp s.opWidth rm r)

/-- SUB r8, r/m8 (rules R261, R267). -/
def execSubR8Rm8 (rm : RM) (r : Reg) (s : State) : Result := outcome (s.regRm subOp .b8 rm r)

/-- SUB r, r/m at `OpSize` (rules R261, R267). -/
def execSubRvRmv (rm : RM) (r : Reg) (s : State) : Result := outcome (s.regRm subOp s.opWidth rm r)

/-- SUB AL, imm8 (rules R261, R267). -/
def execSubAlImm8 (imm : BitVec 8) (s : State) : Result := outcome (s.accImm subOp .b8 (imm.setWidth 32))

/-- SUB (E)AX, imm (rules R261, R267). -/
def execSubAxImmv (imm : BitVec 32) (s : State) : Result := outcome (s.accImm subOp s.opWidth imm)

/-- SUB r/m8, imm8 (rules R261, R267). -/
def execSubRm8Imm8 (rm : RM) (imm : BitVec 8) (s : State) : Result := outcome (s.rmImm subOp .b8 rm (imm.setWidth 32))

/-- SUB r/m, imm at `OpSize` (rules R261, R267). -/
def execSubRmvImmv (rm : RM) (imm : BitVec 32) (s : State) : Result := outcome (s.rmImm subOp s.opWidth rm imm)

/-- SUB r/m, sign-extended imm8 (rules R261, R267). -/
def execSubRmvImm8 (rm : RM) (imm : BitVec 8) (s : State) : Result :=
  outcome (s.rmImm subOp s.opWidth rm (s.opWidth.sext8 imm))

/-- XOR r/m8, r8 (rules R261, R268). -/
def execXorRm8R8 (rm : RM) (r : Reg) (s : State) : Result := outcome (s.rmReg xorOp .b8 rm r)

/-- XOR r/m, r at `OpSize` (rules R261, R268). -/
def execXorRmvRv (rm : RM) (r : Reg) (s : State) : Result := outcome (s.rmReg xorOp s.opWidth rm r)

/-- XOR r8, r/m8 (rules R261, R268). -/
def execXorR8Rm8 (rm : RM) (r : Reg) (s : State) : Result := outcome (s.regRm xorOp .b8 rm r)

/-- XOR r, r/m at `OpSize` (rules R261, R268). -/
def execXorRvRmv (rm : RM) (r : Reg) (s : State) : Result := outcome (s.regRm xorOp s.opWidth rm r)

/-- XOR AL, imm8 (rules R261, R268). -/
def execXorAlImm8 (imm : BitVec 8) (s : State) : Result := outcome (s.accImm xorOp .b8 (imm.setWidth 32))

/-- XOR (E)AX, imm (rules R261, R268). -/
def execXorAxImmv (imm : BitVec 32) (s : State) : Result := outcome (s.accImm xorOp s.opWidth imm)

/-- XOR r/m8, imm8 (rules R261, R268). -/
def execXorRm8Imm8 (rm : RM) (imm : BitVec 8) (s : State) : Result := outcome (s.rmImm xorOp .b8 rm (imm.setWidth 32))

/-- XOR r/m, imm at `OpSize` (rules R261, R268). -/
def execXorRmvImmv (rm : RM) (imm : BitVec 32) (s : State) : Result := outcome (s.rmImm xorOp s.opWidth rm imm)

/-- XOR r/m, sign-extended imm8 (rules R261, R268). -/
def execXorRmvImm8 (rm : RM) (imm : BitVec 8) (s : State) : Result :=
  outcome (s.rmImm xorOp s.opWidth rm (s.opWidth.sext8 imm))

/-- TEST r/m8, r8 (rule R269). -/
def execTestRm8R8 (rm : RM) (r : Reg) (s : State) : Result := outcome (s.testRM .b8 rm (s.reg .b8 r))

/-- TEST r/m, r at `OpSize` (rule R269). -/
def execTestRmvRv (rm : RM) (r : Reg) (s : State) : Result := outcome (s.testRM s.opWidth rm (s.reg s.opWidth r))

/-- TEST AL, imm8 (rule R269). -/
def execTestAlImm8 (imm : BitVec 8) (s : State) : Result := outcome (s.testAcc .b8 (imm.setWidth 32))

/-- TEST (E)AX, imm (rule R269). -/
def execTestAxImmv (imm : BitVec 32) (s : State) : Result := outcome (s.testAcc s.opWidth imm)

/-- TEST r/m8, imm8 (rule R269). -/
def execTestRm8Imm8 (rm : RM) (imm : BitVec 8) (s : State) : Result := outcome (s.testRM .b8 rm (imm.setWidth 32))

/-- TEST r/m, imm at `OpSize` (rule R269). -/
def execTestRmvImmv (rm : RM) (imm : BitVec 32) (s : State) : Result := outcome (s.testRM s.opWidth rm imm)

/-- NOT r/m8 (rule R264). -/
def execNotRm8 (rm : RM) (s : State) : Result := outcome (s.rmUnary notOp .b8 rm)

/-- NOT r/m at `OpSize` (rule R264). -/
def execNotRmv (rm : RM) (s : State) : Result := outcome (s.rmUnary notOp s.opWidth rm)

/-- NEG r/m8 (rule R263). -/
def execNegRm8 (rm : RM) (s : State) : Result := outcome (s.rmUnary negOp .b8 rm)

/-- NEG r/m at `OpSize` (rule R263). -/
def execNegRmv (rm : RM) (s : State) : Result := outcome (s.rmUnary negOp s.opWidth rm)

/-- MUL r/m8 (rule R260). -/
def execMulRm8 (rm : RM) (s : State) : Result := outcome (s.mulRM .b8 rm)

/-- MUL r/m at `OpSize` (rule R260). -/
def execMulRmv (rm : RM) (s : State) : Result := outcome (s.mulRM s.opWidth rm)

end Sys2Proof.Machine
end

