-- ==== Sys2Proof/Machine/Control.lean ====
section
/-! DEFINITION. RET near and far (46_control.md), and the relative branches that 49_encoding_only.md gives in full: Jcc, JCXZ,
LOOP and JMP (rules R519 to R521, R532). -/

namespace Sys2Proof.Machine

/-- Near return, releasing `imm` bytes (rules R400, R401, R408). -/
def State.retNear (s : State) (imm : Nat) : M State := do
  let k := s.opWidth.bytes
  s.noLock
  s.checkPop 0 k
  (s.popped (k + imm)).jump (s.item 0 k)

/-- The selector of a far return's stack frame: the low half of the second item (rules R402, R405). -/
def State.returnSel (s : State) : Half := (s.item s.opWidth.bytes 2).extractLsb' 0 16

/-- Far return in real-address and virtual 8086 mode: both items are in the limit before either is read (rules R402,
R403). -/
def State.retFarReal (s : State) (imm : Nat) : M State := do
  let k := s.opWidth.bytes
  s.checkPops k 2
  if 0xFFFF < (s.item 0 k).toNat then .error (.fault s.codeFault)
  .ok (((s.setSeg .cs (realSegment s.returnSel)).popped (2 * k + imm)).jumpTo (s.item 0 k))

/-- The checks on the code segment of a far return to level `level`: rules R405 and R406 differ in the level only. -/
def State.returnCode (s : State) (sel : Half) (level : BitVec 2) : M Descriptor := do
  if isNull sel then raiseGP0
  let d ← s.descriptor sel
  if d.isCode = false then raiseGPSel sel
  if d.conforming = false ∧ d.rights.dpl ≠ level then raiseGPSel sel
  if d.conforming = true ∧ level.toNat < d.rights.dpl.toNat then raiseGPSel sel
  if d.rights.present = false then raiseNPSel sel
  .ok d

/-- The checks on the stack segment of a far return to an outer level; a segment not present is #NP here
(rule R406). -/
def State.returnStack (s : State) (sel : Half) (level : BitVec 2) : M Descriptor := do
  if isNull sel then raiseGP0
  let e ← s.descriptor sel
  if rplOf sel ≠ level then raiseGPSel sel
  if e.rights.writable = false then raiseGPSel sel
  if e.rights.dpl ≠ level then raiseGPSel sel
  if e.rights.present = false then raiseNPSel sel
  .ok e

/-- A segment register that the level may not use is nulled (rules R87, R407). -/
def State.dropSeg (s : State) (r : SegReg) : M State :=
  if (s.seg r).valid = false then .ok s
  else do
    let d? ← s.readDescriptor (s.seg r).sel
    let ok :=
      match d? with
      | none => false
      | some d => d.rights.readable && d.dataPrivOK (rplOf (s.seg r).sel) s.cpl
    if ok then .ok s else .ok (s.setSeg r { s.seg r with sel := 0, valid := false })

/-- The data segment registers validated at the new level, in the listing's order (rule R407). -/
def State.dropSegs (s : State) : M State := do
  let s1 ← s.dropSeg .es
  let s2 ← s1.dropSeg .fs
  let s3 ← s2.dropSeg .gs
  s3.dropSeg .ds

/-- Far return in protected mode to the same level (rule R405). -/
def State.retFarSame (s : State) (imm : Nat) : M State := do
  let k := s.opWidth.bytes
  let d ← s.returnCode s.returnSel s.cpl
  s.checkPop 0 k
  if d.limit.toNat < (s.item 0 k).toNat then raiseGP0
  .ok (((s.setSeg .cs (segmentOf s.returnSel d)).popped (2 * k + imm)).jumpTo (s.item 0 k))

/-- Far return in protected mode to an outer level (rule R406). -/
def State.retFarOuter (s : State) (imm : Nat) : M State := do
  let k := s.opWidth.bytes
  let level := rplOf s.returnSel
  if s.inLimit .ss (s.stackUp 0) (4 * k + imm) = false then raise .stackFault (some 0)
  let d ← s.returnCode s.returnSel level
  s.checkPop (2 * k + imm) k
  s.checkPop (3 * k + imm) k
  let ssel := (s.item (3 * k + imm) k).extractLsb' 0 16
  let e ← s.returnStack ssel level
  s.checkPop 0 k
  if d.limit.toNat < (s.item 0 k).toNat then raiseGP0
  let t := { (s.setSeg .cs (segmentOf s.returnSel d)).setSeg .ss (segmentOf ssel e) with cpl := level }
  let u ← (t.setReg s.opWidth .esp (s.item (2 * k + imm) k)).dropSegs
  .ok (u.jumpTo (s.item 0 k))

/-- Far return, releasing `imm` bytes (rules R402 to R406). -/
def State.retFar (s : State) (imm : Nat) : M State := do
  s.noLock
  match s.mode with
  | .prot => do
    s.checkPop s.opWidth.bytes 2
    if (rplOf s.returnSel).toNat < s.cpl.toNat then raiseGPSel s.returnSel
    else if rplOf s.returnSel = s.cpl then s.retFarSame imm
    else s.retFarOuter imm
  | _ => s.retFarReal imm

/-- The displacement of a relative branch, sign-extended (rule R138). -/
def relValue (o : Size) (rel : Word) : Word :=
  match o with
  | .s16 => (rel.extractLsb' 0 16).signExtend 32
  | .s32 => rel

/-- The displacement of a conditional jump, sign-extended (rules R138, R519). -/
def relOf (o : Size) : Rel → Word
  | .short rel => rel.signExtend 32
  | .near rel => relValue o rel

/-- The target of a relative branch (rules R138, R519). -/
def State.relTarget (s : State) (rel : Word) : Word :=
  match s.opSize with
  | .s16 => (s.eipNext + rel) &&& 0xFFFF
  | .s32 => s.eipNext + rel

/-- `ACCEPT_GK_BRANCHES` (rule R480). -/
def State.branchesOk (s : State) : M Unit :=
  if s.cfg.acceptGkBranches then .ok () else refuse .branchesDisabled

/-- A relative branch, taken or not (rule R519). -/
def State.branch (s : State) (take : Bool) (rel : Word) : M State := do
  s.noLock
  s.branchesOk
  if take then s.jump (s.relTarget rel) else .ok s.retire

/-- LOOP: the count register is decremented; the target is checked before it is written (rule R532). -/
def State.loopBranch (s : State) (also : Bool) (rel : BitVec 8) : M State :=
  s.countDown.branch (s.countDown.count != 0 && also) (rel.signExtend 32)

/-- RET near (rule R400). -/
def execRetNear (s : State) : Result := outcome (s.retNear 0)

/-- RET imm16 near (rule R401). -/
def execRetNearImm (imm : BitVec 16) (s : State) : Result := outcome (s.retNear imm.toNat)

/-- RET far (rules R402, R405, R406). -/
def execRetFar (s : State) : Result := outcome (s.retFar 0)

/-- RET imm16 far (rule R403). -/
def execRetFarImm (imm : BitVec 16) (s : State) : Result := outcome (s.retFar imm.toNat)

/-- JO, short or near (rules R433, R519). -/
def execJo (rel : Rel) (s : State) : Result := outcome (s.branch (s.flags.cond 0x0) (relOf s.opSize rel))

/-- JNO, short or near (rules R433, R519). -/
def execJno (rel : Rel) (s : State) : Result := outcome (s.branch (s.flags.cond 0x1) (relOf s.opSize rel))

/-- JB, short or near (rules R433, R519). -/
def execJb (rel : Rel) (s : State) : Result := outcome (s.branch (s.flags.cond 0x2) (relOf s.opSize rel))

/-- JNB, short or near (rules R433, R519). -/
def execJnb (rel : Rel) (s : State) : Result := outcome (s.branch (s.flags.cond 0x3) (relOf s.opSize rel))

/-- JZ, short or near (rules R433, R519). -/
def execJz (rel : Rel) (s : State) : Result := outcome (s.branch (s.flags.cond 0x4) (relOf s.opSize rel))

/-- JNZ, short or near (rules R433, R519). -/
def execJnz (rel : Rel) (s : State) : Result := outcome (s.branch (s.flags.cond 0x5) (relOf s.opSize rel))

/-- JBE, short or near (rules R433, R519). -/
def execJbe (rel : Rel) (s : State) : Result := outcome (s.branch (s.flags.cond 0x6) (relOf s.opSize rel))

/-- JNBE, short or near (rules R433, R519). -/
def execJnbe (rel : Rel) (s : State) : Result := outcome (s.branch (s.flags.cond 0x7) (relOf s.opSize rel))

/-- JS, short or near (rules R433, R519). -/
def execJs (rel : Rel) (s : State) : Result := outcome (s.branch (s.flags.cond 0x8) (relOf s.opSize rel))

/-- JNS, short or near (rules R433, R519). -/
def execJns (rel : Rel) (s : State) : Result := outcome (s.branch (s.flags.cond 0x9) (relOf s.opSize rel))

/-- JP, short or near (rules R433, R519). -/
def execJp (rel : Rel) (s : State) : Result := outcome (s.branch (s.flags.cond 0xA) (relOf s.opSize rel))

/-- JNP, short or near (rules R433, R519). -/
def execJnp (rel : Rel) (s : State) : Result := outcome (s.branch (s.flags.cond 0xB) (relOf s.opSize rel))

/-- JL, short or near (rules R433, R519). -/
def execJl (rel : Rel) (s : State) : Result := outcome (s.branch (s.flags.cond 0xC) (relOf s.opSize rel))

/-- JNL, short or near (rules R433, R519). -/
def execJnl (rel : Rel) (s : State) : Result := outcome (s.branch (s.flags.cond 0xD) (relOf s.opSize rel))

/-- JLE, short or near (rules R433, R519). -/
def execJle (rel : Rel) (s : State) : Result := outcome (s.branch (s.flags.cond 0xE) (relOf s.opSize rel))

/-- JNLE, short or near (rules R433, R519). -/
def execJnle (rel : Rel) (s : State) : Result := outcome (s.branch (s.flags.cond 0xF) (relOf s.opSize rel))

/-- JCXZ or JECXZ by `AddrSize` (rule R520). -/
def execJcxz (rel : BitVec 8) (s : State) : Result := outcome (s.branch (s.count == 0) (rel.signExtend 32))

/-- LOOP (rule R532). -/
def execLoop (rel : BitVec 8) (s : State) : Result := outcome (s.loopBranch true rel)

/-- LOOPE (rule R532). -/
def execLoope (rel : BitVec 8) (s : State) : Result := outcome (s.loopBranch s.flags.zf rel)

/-- LOOPNE (rule R532). -/
def execLoopne (rel : BitVec 8) (s : State) : Result := outcome (s.loopBranch (!s.flags.zf) rel)

/-- JMP rel8 (rule R521). -/
def execJmpRel8 (rel : BitVec 8) (s : State) : Result := outcome (s.branch true (rel.signExtend 32))

/-- JMP rel16 or rel32 (rule R521). -/
def execJmpRel (rel : BitVec 32) (s : State) : Result := outcome (s.branch true (relValue s.opSize rel))

end Sys2Proof.Machine
end

