-- ==== Sys2Proof/Machine/Mov.lean ====
section
/-! DEFINITION. MOV, MOV to and from special registers, MOVSX and MOVZX (40_mov.md). -/

namespace Sys2Proof.Machine

/-- MOV r/m, value (rules R201, R204). -/
def State.movToRM (s : State) (w : Width) (rm : RM) (v : Word) : M State := do
  s.noLock
  s.writeRM w rm v

/-- MOV r, r/m, with the value read made into the value written (rules R201, R216, R217). -/
def State.movFromRM (s : State) (src dst : Width) (rm : RM) (r : Reg) (f : Word → Word) : M State := do
  s.noLock
  let v ← s.readRM src rm
  .ok (s.setReg dst r (f v)).retire

/-- MOV accumulator, moffs (rule R202). -/
def State.movAccMoffs (s : State) (w : Width) (off : Word) : M State := do
  s.noLock
  let v ← s.memRead (s.segOr .ds) off w.bytes
  .ok (s.setReg w .eax v).retire

/-- MOV moffs, accumulator (rule R202). -/
def State.movMoffsAcc (s : State) (w : Width) (off : Word) : M State := do
  s.noLock
  let t ← s.memWrite (s.segOr .ds) off w.bytes (s.reg w .eax)
  .ok t.retire

/-- MOV register, immediate (rule R203). -/
def State.movRegImm (s : State) (w : Width) (r : Reg) (v : Word) : M State := do
  s.noLock
  .ok (s.setReg w r v).retire

/-- A 16-bit value into r/m16: always a word in memory; into a register, `OpSize` bits with the upper half drawn
(rules R207, R464). -/
def State.writeHalf (s : State) (rm : RM) (v : Half) : M State :=
  match rm, s.opSize with
  | .reg r, .s32 => .ok (s.drawn.setReg .d32 r (s.nextDraw.extractLsb' 16 16 ++ v)).retire
  | rm, _ => s.writeRM .w16 rm (v.setWidth 32)

/-- The privilege check of MOV to and from special registers (rule R209). -/
def State.checkSpecial (s : State) : M Unit :=
  match s.mode with
  | .real => .ok ()
  | .v86 => raiseGP0
  | .prot => if s.cpl = 0 then .ok () else raiseGP0

/-- The six status flags drawn (rule R209). -/
def State.undefineFlags (s : State) : State := (s.setFlags (s.flags.undefined s.nextDraw)).drawn

/-- MOV r32, special register (rules R209, R210, R212). -/
def State.movFromSpecial (s : State) (r : Reg) (v : Word) : M State := do
  s.noLock
  s.checkSpecial
  .ok (s.setReg .d32 r v).undefineFlags.retire

/-- The values MOV to CR0 and CR3 refuses (rules R36, R211). -/
def State.checkCreg (s : State) (c : CReg) (v : Word) : M Unit :=
  match c with
  | .cr0 =>
    if v.getLsbD 31 then refuse .paging
    else if s.pe && !v.getLsbD 0 then refuse .leavingProtectedMode
    else .ok ()
  | .cr2 => .ok ()
  | .cr3 => if v.extractLsb' 0 12 = 0 then .ok () else refuse .cr3LowBits

/-- The values MOV to DR7 refuses (rules R39, R213). -/
def checkDreg (d : DReg) (v : Word) : M Unit :=
  match d with
  | .dr7 => if v.extractLsb' 0 8 = 0 then .ok () else refuse .breakpointsEnabled
  | _ => .ok ()

/-- MOV r/m8, r8 (rule R201). -/
def execMovRm8R8 (rm : RM) (r : Reg) (s : State) : Result := outcome (s.movToRM .b8 rm (s.reg .b8 r))

/-- MOV r/m, r at `OpSize` (rule R201). -/
def execMovRmvRv (rm : RM) (r : Reg) (s : State) : Result := outcome (s.movToRM s.opWidth rm (s.reg s.opWidth r))

/-- MOV r8, r/m8 (rule R201). -/
def execMovR8Rm8 (rm : RM) (r : Reg) (s : State) : Result := outcome (s.movFromRM .b8 .b8 rm r id)

/-- MOV r, r/m at `OpSize` (rule R201). -/
def execMovRvRmv (rm : RM) (r : Reg) (s : State) : Result := outcome (s.movFromRM s.opWidth s.opWidth rm r id)

/-- MOV AL, moffs8 (rule R202). -/
def execMovAlMoffs (off : BitVec 32) (s : State) : Result := outcome (s.movAccMoffs .b8 off)

/-- MOV (E)AX, moffs (rule R202). -/
def execMovAxMoffs (off : BitVec 32) (s : State) : Result := outcome (s.movAccMoffs s.opWidth off)

/-- MOV moffs8, AL (rule R202). -/
def execMovMoffsAl (off : BitVec 32) (s : State) : Result := outcome (s.movMoffsAcc .b8 off)

/-- MOV moffs, (E)AX (rule R202). -/
def execMovMoffsAx (off : BitVec 32) (s : State) : Result := outcome (s.movMoffsAcc s.opWidth off)

/-- MOV r8, imm8 (rule R203). -/
def execMovReg8Imm8 (r : Reg) (imm : BitVec 8) (s : State) : Result := outcome (s.movRegImm .b8 r (imm.setWidth 32))

/-- MOV r, imm at `OpSize` (rule R203). -/
def execMovRegvImmv (r : Reg) (imm : BitVec 32) (s : State) : Result := outcome (s.movRegImm s.opWidth r imm)

/-- MOV r/m8, imm8 (rule R204). -/
def execMovRm8Imm8 (rm : RM) (imm : BitVec 8) (s : State) : Result := outcome (s.movToRM .b8 rm (imm.setWidth 32))

/-- MOV r/m, imm at `OpSize` (rule R204). -/
def execMovRmvImmv (rm : RM) (imm : BitVec 32) (s : State) : Result := outcome (s.movToRM s.opWidth rm imm)

/-- MOV Sreg, r/m16 (rules R205, R208); CS is refused (rule R206). -/
def execMovSregRm16 (rm : RM) (sr : SegReg) (s : State) : Result := outcome do
  s.noLock
  if sr = .cs then refuse (.reservedEncoding .moveToCs)
  let sel ← s.readRM .w16 rm
  let t ← s.loadSeg sr (sel.extractLsb' 0 16)
  .ok (t.retireWith (inhibitAfterLoad sr))

/-- MOV r/m16, Sreg (rule R207). -/
def execMovRm16Sreg (rm : RM) (sr : SegReg) (s : State) : Result := outcome do
  s.noLock
  s.writeHalf rm (s.seg sr).sel

/-- MOV r32, CRn (rule R210). -/
def execMovR32Cr (c : CReg) (r : Reg) (s : State) : Result := outcome (s.movFromSpecial r (s.creg c))

/-- MOV CRn, r32 (rule R211). -/
def execMovCrR32 (c : CReg) (r : Reg) (s : State) : Result := outcome do
  s.noLock
  s.checkSpecial
  s.checkCreg c (s.reg .d32 r)
  .ok (s.setCreg c (s.reg .d32 r)).undefineFlags.retire

/-- MOV r32, DRn (rule R212). -/
def execMovR32Dr (d : DReg) (r : Reg) (s : State) : Result := outcome (s.movFromSpecial r (s.dreg d))

/-- MOV DRn, r32 (rule R213). -/
def execMovDrR32 (d : DReg) (r : Reg) (s : State) : Result := outcome do
  s.noLock
  s.checkSpecial
  checkDreg d (s.reg .d32 r)
  .ok (s.setDreg d (s.reg .d32 r)).undefineFlags.retire

/-- MOV r32, TRn: the value read is drawn (rule R214). -/
def execMovR32Tr (_t : TReg) (r : Reg) (s : State) : Result := outcome (s.drawn.movFromSpecial r s.nextDraw)

/-- MOV TRn, r32: the value is discarded (rule R215). -/
def execMovTrR32 (_t : TReg) (_r : Reg) (s : State) : Result := outcome do
  s.noLock
  s.checkSpecial
  .ok s.undefineFlags.retire

/-- MOVSX r, r/m8 (rule R216). -/
def execMovsx8 (rm : RM) (r : Reg) (s : State) : Result :=
  outcome (s.movFromRM .b8 s.opWidth rm r fun v => s.opWidth.sext8 (v.extractLsb' 0 8))

/-- MOVSX r, r/m16 (rule R216). -/
def execMovsx16 (rm : RM) (r : Reg) (s : State) : Result :=
  outcome (s.movFromRM .w16 s.opWidth rm r fun v => s.opWidth.trunc ((v.extractLsb' 0 16).signExtend 32))

/-- MOVZX r, r/m8 (rule R217). -/
def execMovzx8 (rm : RM) (r : Reg) (s : State) : Result := outcome (s.movFromRM .b8 s.opWidth rm r id)

/-- MOVZX r, r/m16 (rule R217). -/
def execMovzx16 (rm : RM) (r : Reg) (s : State) : Result := outcome (s.movFromRM .w16 s.opWidth rm r id)

end Sys2Proof.Machine
end

