-- ==== Sys2Proof/Machine/System.lean ====
section
/-! DEFINITION. SGDT, SIDT, SLDT, SMSW, STR, VERR and VERW (48_system.md). -/

namespace Sys2Proof.Machine

/-- BASE as SGDT and SIDT store it: with `OpSize` 16 the highest byte is drawn (rule R462). -/
def State.tableBase (s : State) (base : Word) : Word :=
  match s.opSize with
  | .s32 => base
  | .s16 => s.nextDraw.extractLsb' 24 8 ++ base.extractLsb' 0 24

/-- `off + 2` modulo 2^`AddrSize`, where BASE goes (rule R460). -/
def State.tableBaseOff (s : State) (off : Word) : Word := s.addrWidth.trunc (off + 2)

/-- The checks of SGDT and SIDT: the six bytes as one operand by steps 1 and 2 of rule R72, then each of the two stores by
itself (rules R460, R461). -/
def State.checkTableStore (s : State) (g : SegReg) (off : Word) : M Unit := do
  s.checkFault .write g off 6
  s.checkAccess .write g off 2
  s.checkAccess .write g (s.tableBaseOff off) 4

/-- The two stores of SGDT and SIDT, LIMIT then BASE, after their checks (rules R460 to R462). -/
def State.tableStored (s : State) (t : TableReg) (g : SegReg) (off : Word) : State :=
  (s.drawn.store g off 2 (t.limit.setWidth 32)).store g (s.tableBaseOff off) 4 (s.tableBase t.base)

/-- SGDT or SIDT of a table register (rules R460 to R462). -/
def State.storeTable (s : State) (t : TableReg) (rm : RM) : M State := do
  s.noLock
  match s.place rm with
  | .reg _ => raiseUD
  | .mem g off => do
    s.checkTableStore g off
    .ok (s.tableStored t g off).retire

/-- The instruction is not recognised outside protected mode (rule R468). -/
def State.protectedOnly (s : State) : M Unit :=
  match s.mode with
  | .prot => .ok ()
  | _ => raiseUD

/-- SLDT or STR of a selector: always a word (rules R463, R465). -/
def State.storeSel (s : State) (sel : Half) (rm : RM) : M State := do
  s.noLock
  s.protectedOnly
  s.writeRM .w16 rm (sel.setWidth 32)

/-- The descriptor passes VERR at the level and RPL (rule R466). -/
def verrOK (d : Descriptor) (rpl cpl : BitVec 2) : Bool := d.rights.readable && d.dataPrivOK rpl cpl

/-- The descriptor passes VERW at the level and RPL (rule R467). -/
def verwOK (d : Descriptor) (rpl cpl : BitVec 2) : Bool := d.rights.writable && d.dataPrivOK rpl cpl

/-- VERR or VERW of a selector: only ZF changes (rules R466, R467). -/
def State.verify (s : State) (ok : Descriptor → BitVec 2 → BitVec 2 → Bool) (rm : RM) : M State := do
  s.noLock
  s.protectedOnly
  let v ← s.readRM .w16 rm
  let sel : Half := v.extractLsb' 0 16
  let d? ← if isNull sel then .ok none else s.readDescriptor sel
  let z :=
    match d? with
    | none => false
    | some d => ok d (rplOf sel) s.cpl
  .ok (s.setFlags { s.flags with zf := z }).retire

/-- SGDT (rules R460, R462). -/
def execSgdt (rm : RM) (s : State) : Result := outcome (s.storeTable s.gdtr rm)

/-- SIDT (rules R461, R462). -/
def execSidt (rm : RM) (s : State) : Result := outcome (s.storeTable s.idtr rm)

/-- SLDT (rule R463). -/
def execSldt (rm : RM) (s : State) : Result := outcome (s.storeSel s.ldtr.sel rm)

/-- STR (rule R465). -/
def execStr (rm : RM) (s : State) : Result := outcome (s.storeSel s.taskr.sel rm)

/-- SMSW (rule R464). -/
def execSmsw (rm : RM) (s : State) : Result := outcome do
  s.noLock
  s.writeHalf rm (s.cr0.extractLsb' 0 16)

/-- VERR (rule R466). -/
def execVerr (rm : RM) (s : State) : Result := outcome (s.verify verrOK rm)

/-- VERW (rule R467). -/
def execVerw (rm : RM) (s : State) : Result := outcome (s.verify verwOK rm)

end Sys2Proof.Machine
end

