-- ==== Sys2Proof/Machine/EncodingOnly.lean ====
section
/-! DEFINITION. The instructions of 49_encoding_only.md that have an encoding and no semantics: each is refused under a
name of its own, as rule R480 (c) says (log entry 5), or raises #UD where rule R480 (a) says so. -/

namespace Sys2Proof.Machine

/-- `Refuse("no semantics in source: <mnemonic>")` (rule R480 (c)). -/
def State.noMeaning (s : State) (mnemonic : String) : M State := do
  s.noLock
  refuse (.noSemantics mnemonic)

/-- The same for an instruction that raises #UD outside protected mode (rules R147, R480 (a)). -/
def State.noMeaningProtected (s : State) (mnemonic : String) : M State := do
  s.noLock
  s.protectedOnly
  refuse (.noSemantics mnemonic)

/-- ADD r/m8,r8: refused (rules R486, R480). -/
def execAddRm8R8 (_rm : RM) (_r : Reg) (s : State) : Result := outcome (s.noMeaning "ADD")

/-- ADD r/m16,r16 | r/m32,r32: refused (rules R486, R480). -/
def execAddRmvRv (_rm : RM) (_r : Reg) (s : State) : Result := outcome (s.noMeaning "ADD")

/-- ADD r8,r/m8: refused (rules R486, R480). -/
def execAddR8Rm8 (_rm : RM) (_r : Reg) (s : State) : Result := outcome (s.noMeaning "ADD")

/-- ADD r16,r/m16 | r32,r/m32: refused (rules R486, R480). -/
def execAddRvRmv (_rm : RM) (_r : Reg) (s : State) : Result := outcome (s.noMeaning "ADD")

/-- ADD AL,imm8: refused (rules R486, R480). -/
def execAddAlImm8 (_imm : BitVec 8) (s : State) : Result := outcome (s.noMeaning "ADD")

/-- ADD AX,imm16 | EAX,imm32: refused (rules R486, R480). -/
def execAddAxImmv (_imm : BitVec 32) (s : State) : Result := outcome (s.noMeaning "ADD")

/-- ADD r/m8,imm8: refused (rules R486, R480). -/
def execAddRm8Imm8 (_rm : RM) (_imm : BitVec 8) (s : State) : Result := outcome (s.noMeaning "ADD")

/-- ADD r/m16,imm16 | r/m32,imm32: refused (rules R486, R480). -/
def execAddRmvImmv (_rm : RM) (_imm : BitVec 32) (s : State) : Result := outcome (s.noMeaning "ADD")

/-- ADD r/m16,imm8 | r/m32,imm8: refused (rules R486, R480). -/
def execAddRmvImm8 (_rm : RM) (_imm : BitVec 8) (s : State) : Result := outcome (s.noMeaning "ADD")

/-- ADC r/m8,r8: refused (rules R485, R480). -/
def execAdcRm8R8 (_rm : RM) (_r : Reg) (s : State) : Result := outcome (s.noMeaning "ADC")

/-- ADC r/m16,r16 | r/m32,r32: refused (rules R485, R480). -/
def execAdcRmvRv (_rm : RM) (_r : Reg) (s : State) : Result := outcome (s.noMeaning "ADC")

/-- ADC r8,r/m8: refused (rules R485, R480). -/
def execAdcR8Rm8 (_rm : RM) (_r : Reg) (s : State) : Result := outcome (s.noMeaning "ADC")

/-- ADC r16,r/m16 | r32,r/m32: refused (rules R485, R480). -/
def execAdcRvRmv (_rm : RM) (_r : Reg) (s : State) : Result := outcome (s.noMeaning "ADC")

/-- ADC AL,imm8: refused (rules R485, R480). -/
def execAdcAlImm8 (_imm : BitVec 8) (s : State) : Result := outcome (s.noMeaning "ADC")

/-- ADC AX,imm16 | EAX,imm32: refused (rules R485, R480). -/
def execAdcAxImmv (_imm : BitVec 32) (s : State) : Result := outcome (s.noMeaning "ADC")

/-- ADC r/m8,imm8: refused (rules R485, R480). -/
def execAdcRm8Imm8 (_rm : RM) (_imm : BitVec 8) (s : State) : Result := outcome (s.noMeaning "ADC")

/-- ADC r/m16,imm16 | r/m32,imm32: refused (rules R485, R480). -/
def execAdcRmvImmv (_rm : RM) (_imm : BitVec 32) (s : State) : Result := outcome (s.noMeaning "ADC")

/-- ADC r/m16,imm8 | r/m32,imm8: refused (rules R485, R480). -/
def execAdcRmvImm8 (_rm : RM) (_imm : BitVec 8) (s : State) : Result := outcome (s.noMeaning "ADC")

/-- AND r/m8,r8: refused (rules R487, R480). -/
def execAndRm8R8 (_rm : RM) (_r : Reg) (s : State) : Result := outcome (s.noMeaning "AND")

/-- AND r/m16,r16 | r/m32,r32: refused (rules R487, R480). -/
def execAndRmvRv (_rm : RM) (_r : Reg) (s : State) : Result := outcome (s.noMeaning "AND")

/-- AND r8,r/m8: refused (rules R487, R480). -/
def execAndR8Rm8 (_rm : RM) (_r : Reg) (s : State) : Result := outcome (s.noMeaning "AND")

/-- AND r16,r/m16 | r32,r/m32: refused (rules R487, R480). -/
def execAndRvRmv (_rm : RM) (_r : Reg) (s : State) : Result := outcome (s.noMeaning "AND")

/-- AND AL,imm8: refused (rules R487, R480). -/
def execAndAlImm8 (_imm : BitVec 8) (s : State) : Result := outcome (s.noMeaning "AND")

/-- AND AX,imm16 | EAX,imm32: refused (rules R487, R480). -/
def execAndAxImmv (_imm : BitVec 32) (s : State) : Result := outcome (s.noMeaning "AND")

/-- AND r/m8,imm8: refused (rules R487, R480). -/
def execAndRm8Imm8 (_rm : RM) (_imm : BitVec 8) (s : State) : Result := outcome (s.noMeaning "AND")

/-- AND r/m16,imm16 | r/m32,imm32: refused (rules R487, R480). -/
def execAndRmvImmv (_rm : RM) (_imm : BitVec 32) (s : State) : Result := outcome (s.noMeaning "AND")

/-- AND r/m16,imm8 | r/m32,imm8: refused (rules R487, R480). -/
def execAndRmvImm8 (_rm : RM) (_imm : BitVec 8) (s : State) : Result := outcome (s.noMeaning "AND")

/-- CMP r/m8,r8: refused (rules R503, R480). -/
def execCmpRm8R8 (_rm : RM) (_r : Reg) (s : State) : Result := outcome (s.noMeaning "CMP")

/-- CMP r/m16,r16 | r/m32,r32: refused (rules R503, R480). -/
def execCmpRmvRv (_rm : RM) (_r : Reg) (s : State) : Result := outcome (s.noMeaning "CMP")

/-- CMP r8,r/m8: refused (rules R503, R480). -/
def execCmpR8Rm8 (_rm : RM) (_r : Reg) (s : State) : Result := outcome (s.noMeaning "CMP")

/-- CMP r16,r/m16 | r32,r/m32: refused (rules R503, R480). -/
def execCmpRvRmv (_rm : RM) (_r : Reg) (s : State) : Result := outcome (s.noMeaning "CMP")

/-- CMP AL,imm8: refused (rules R503, R480). -/
def execCmpAlImm8 (_imm : BitVec 8) (s : State) : Result := outcome (s.noMeaning "CMP")

/-- CMP AX,imm16 | EAX,imm32: refused (rules R503, R480). -/
def execCmpAxImmv (_imm : BitVec 32) (s : State) : Result := outcome (s.noMeaning "CMP")

/-- CMP r/m8,imm8: refused (rules R503, R480). -/
def execCmpRm8Imm8 (_rm : RM) (_imm : BitVec 8) (s : State) : Result := outcome (s.noMeaning "CMP")

/-- CMP r/m16,imm16 | r/m32,imm32: refused (rules R503, R480). -/
def execCmpRmvImmv (_rm : RM) (_imm : BitVec 32) (s : State) : Result := outcome (s.noMeaning "CMP")

/-- CMP r/m16,imm8 | r/m32,imm8: refused (rules R503, R480). -/
def execCmpRmvImm8 (_rm : RM) (_imm : BitVec 8) (s : State) : Result := outcome (s.noMeaning "CMP")

/-- INC r16 | r32: refused (rules R515, R480). -/
def execIncReg (_r : Reg) (s : State) : Result := outcome (s.noMeaning "INC")

/-- DEC r16 | r32: refused (rules R508, R480). -/
def execDecReg (_r : Reg) (s : State) : Result := outcome (s.noMeaning "DEC")

/-- BOUND r16,m16&16 | r32,m32&32: refused (rules R489, R480). -/
def execBound (_m : Mem) (_r : Reg) (s : State) : Result := outcome (s.noMeaning "BOUND")

/-- ARPL r/m16,r16: refused (rules R488, R480). -/
def execArpl (_rm : RM) (_r : Reg) (s : State) : Result := outcome (s.noMeaningProtected "ARPL")

/-- IMUL r16,r/m16,imm16 | r32,r/m32,imm32: refused (rules R513, R480). -/
def execImulRvRmvImmv (_rm : RM) (_r : Reg) (_imm : BitVec 32) (s : State) : Result := outcome (s.noMeaning "IMUL")

/-- IMUL r16,r/m16,imm8 | r32,r/m32,imm8: refused (rules R513, R480). -/
def execImulRvRmvImm8 (_rm : RM) (_r : Reg) (_imm : BitVec 8) (s : State) : Result := outcome (s.noMeaning "IMUL")

/-- LEA r16,m | r32,m: refused (rules R525, R480). -/
def execLea (_m : Mem) (_r : Reg) (s : State) : Result := outcome (s.noMeaning "LEA")

/-- CALL ptr16:16 | ptr16:32: refused (rules R496, R480). -/
def execCallPtr (_off : BitVec 32) (_sel : BitVec 16) (s : State) : Result := outcome (s.noMeaning "CALL")

/-- LES r16,m16:16 | r32,m16:32: refused (rules R524, R480). -/
def execLes (_m : Mem) (_r : Reg) (s : State) : Result := outcome (s.noMeaning "LES")

/-- LDS r16,m16:16 | r32,m16:32: refused (rules R524, R480). -/
def execLds (_m : Mem) (_r : Reg) (s : State) : Result := outcome (s.noMeaning "LDS")

/-- ENTER imm16,imm8: refused (rules R510, R480). -/
def execEnter (_imm : BitVec 16) (_level : BitVec 8) (s : State) : Result := outcome (s.noMeaning "ENTER")

/-- INT imm8: refused (rules R517, R480). -/
def execIntImm8 (_imm : BitVec 8) (s : State) : Result := outcome (s.noMeaning "INT")

/-- ESC m | r: refused (rules R560, R480). -/
def execEsc (_low : BitVec 3) (_ext : BitVec 3) (_rm : RM) (s : State) : Result := outcome (s.noMeaning "ESC")

/-- IN AL,imm8: refused (rules R514, R480). -/
def execInAlImm8 (_imm : BitVec 8) (s : State) : Result := outcome (s.noMeaning "IN")

/-- IN AX,imm8 | EAX,imm8: refused (rules R514, R480). -/
def execInAxImm8 (_imm : BitVec 8) (s : State) : Result := outcome (s.noMeaning "IN")

/-- CALL rel16 | rel32: refused (rules R496, R480). -/
def execCallRel (_rel : BitVec 32) (s : State) : Result := outcome (s.noMeaning "CALL")

/-- JMP ptr16:16 | ptr16:32: refused (rules R521, R480). -/
def execJmpPtr (_off : BitVec 32) (_sel : BitVec 16) (s : State) : Result := outcome (s.noMeaning "JMP")

/-- IMUL r/m8: refused (rules R513, R480). -/
def execImulRm8 (_rm : RM) (s : State) : Result := outcome (s.noMeaning "IMUL")

/-- DIV r/m8: refused (rules R509, R480). -/
def execDivRm8 (_rm : RM) (s : State) : Result := outcome (s.noMeaning "DIV")

/-- IDIV r/m8: refused (rules R512, R480). -/
def execIdivRm8 (_rm : RM) (s : State) : Result := outcome (s.noMeaning "IDIV")

/-- IMUL r/m16 | r/m32: refused (rules R513, R480). -/
def execImulRmv (_rm : RM) (s : State) : Result := outcome (s.noMeaning "IMUL")

/-- DIV r/m16 | r/m32: refused (rules R509, R480). -/
def execDivRmv (_rm : RM) (s : State) : Result := outcome (s.noMeaning "DIV")

/-- IDIV r/m16 | r/m32: refused (rules R512, R480). -/
def execIdivRmv (_rm : RM) (s : State) : Result := outcome (s.noMeaning "IDIV")

/-- INC r/m8: refused (rules R515, R480). -/
def execIncRm8 (_rm : RM) (s : State) : Result := outcome (s.noMeaning "INC")

/-- DEC r/m8: refused (rules R508, R480). -/
def execDecRm8 (_rm : RM) (s : State) : Result := outcome (s.noMeaning "DEC")

/-- INC r/m16 | r/m32: refused (rules R515, R480). -/
def execIncRmv (_rm : RM) (s : State) : Result := outcome (s.noMeaning "INC")

/-- DEC r/m16 | r/m32: refused (rules R508, R480). -/
def execDecRmv (_rm : RM) (s : State) : Result := outcome (s.noMeaning "DEC")

/-- CALL r/m16 | r/m32: refused (rules R496, R480). -/
def execCallRmv (_rm : RM) (s : State) : Result := outcome (s.noMeaning "CALL")

/-- CALL m16:16 | m16:32: refused (rules R496, R480). -/
def execCallMem (_m : Mem) (s : State) : Result := outcome (s.noMeaning "CALL")

/-- JMP r/m16 | r/m32: refused (rules R521, R480). -/
def execJmpRmv (_rm : RM) (s : State) : Result := outcome (s.noMeaning "JMP")

/-- JMP m16:16 | m16:32: refused (rules R521, R480). -/
def execJmpMem (_m : Mem) (s : State) : Result := outcome (s.noMeaning "JMP")

/-- LLDT r/m16: refused (rules R528, R480). -/
def execLldt (_rm : RM) (s : State) : Result := outcome (s.noMeaningProtected "LLDT")

/-- LTR r/m16: refused (rules R534, R480). -/
def execLtr (_rm : RM) (s : State) : Result := outcome (s.noMeaningProtected "LTR")

/-- LGDT m16&32: refused (rules R527, R480). -/
def execLgdt (_m : Mem) (s : State) : Result := outcome (s.noMeaning "LGDT")

/-- LIDT m16&32: refused (rules R527, R480). -/
def execLidt (_m : Mem) (s : State) : Result := outcome (s.noMeaning "LIDT")

/-- LMSW r/m16: refused (rules R529, R480). -/
def execLmsw (_rm : RM) (s : State) : Result := outcome (s.noMeaning "LMSW")

/-- LAR r16,r/m16 | r32,r/m32: refused (rules R523, R480). -/
def execLar (_rm : RM) (_r : Reg) (s : State) : Result := outcome (s.noMeaningProtected "LAR")

/-- LSL r16,r/m16 | r32,r/m32: refused (rules R533, R480). -/
def execLsl (_rm : RM) (_r : Reg) (s : State) : Result := outcome (s.noMeaningProtected "LSL")

/-- BT r/m16,r16 | r/m32,r32: refused (rules R492, R480). -/
def execBtRmvRv (_rm : RM) (_r : Reg) (s : State) : Result := outcome (s.noMeaning "BT")

/-- BTS r/m16,r16 | r/m32,r32: refused (rules R495, R480). -/
def execBtsRmvRv (_rm : RM) (_r : Reg) (s : State) : Result := outcome (s.noMeaning "BTS")

/-- IMUL r16,r/m16 | r32,r/m32: refused (rules R513, R480). -/
def execImulRvRmv (_rm : RM) (_r : Reg) (s : State) : Result := outcome (s.noMeaning "IMUL")

/-- LSS r16,m16:16 | r32,m16:32: refused (rules R524, R480). -/
def execLss (_m : Mem) (_r : Reg) (s : State) : Result := outcome (s.noMeaning "LSS")

/-- BTR r/m16,r16 | r/m32,r32: refused (rules R494, R480). -/
def execBtrRmvRv (_rm : RM) (_r : Reg) (s : State) : Result := outcome (s.noMeaning "BTR")

/-- LFS r16,m16:16 | r32,m16:32: refused (rules R524, R480). -/
def execLfs (_m : Mem) (_r : Reg) (s : State) : Result := outcome (s.noMeaning "LFS")

/-- LGS r16,m16:16 | r32,m16:32: refused (rules R524, R480). -/
def execLgs (_m : Mem) (_r : Reg) (s : State) : Result := outcome (s.noMeaning "LGS")

/-- BT r/m16,imm8 | r/m32,imm8: refused (rules R492, R480). -/
def execBtRmvImm8 (_rm : RM) (_imm : BitVec 8) (s : State) : Result := outcome (s.noMeaning "BT")

/-- BTS r/m16,imm8 | r/m32,imm8: refused (rules R495, R480). -/
def execBtsRmvImm8 (_rm : RM) (_imm : BitVec 8) (s : State) : Result := outcome (s.noMeaning "BTS")

/-- BTR r/m16,imm8 | r/m32,imm8: refused (rules R494, R480). -/
def execBtrRmvImm8 (_rm : RM) (_imm : BitVec 8) (s : State) : Result := outcome (s.noMeaning "BTR")

/-- BTC r/m16,imm8 | r/m32,imm8: refused (rules R493, R480). -/
def execBtcRmvImm8 (_rm : RM) (_imm : BitVec 8) (s : State) : Result := outcome (s.noMeaning "BTC")

/-- BTC r/m16,r16 | r/m32,r32: refused (rules R493, R480). -/
def execBtcRmvRv (_rm : RM) (_r : Reg) (s : State) : Result := outcome (s.noMeaning "BTC")

/-- BSF r16,r/m16 | r32,r/m32: refused (rules R490, R480). -/
def execBsf (_rm : RM) (_r : Reg) (s : State) : Result := outcome (s.noMeaning "BSF")

/-- BSR r16,r/m16 | r32,r/m32: refused (rules R491, R480). -/
def execBsr (_rm : RM) (_r : Reg) (s : State) : Result := outcome (s.noMeaning "BSR")

/-- DAA: refused (rules R506, R480). -/
def execDaa (s : State) : Result := outcome (s.noMeaning "DAA")

/-- DAS: refused (rules R507, R480). -/
def execDas (s : State) : Result := outcome (s.noMeaning "DAS")

/-- AAA: refused (rules R481, R480). -/
def execAaa (s : State) : Result := outcome (s.noMeaning "AAA")

/-- AAS: refused (rules R484, R480). -/
def execAas (s : State) : Result := outcome (s.noMeaning "AAS")

/-- AAM: refused (rules R483, R480). -/
def execAam (s : State) : Result := outcome (s.noMeaning "AAM")

/-- AAD: refused (rules R482, R480). -/
def execAad (s : State) : Result := outcome (s.noMeaning "AAD")

/-- INS m8,DX | INSB: refused (rules R516, R480). -/
def execIns8 (s : State) : Result := outcome (s.noMeaning "INS")

/-- INS m16,DX | m32,DX | INSW | INSD: refused (rules R516, R480). -/
def execInsv (s : State) : Result := outcome (s.noMeaning "INS")

/-- CBW | CWDE: refused (rules R497, R480). -/
def execCbw (s : State) : Result := outcome (s.noMeaning "CBW")

/-- CWD | CDQ: refused (rules R505, R480). -/
def execCwd (s : State) : Result := outcome (s.noMeaning "CWD")

/-- LAHF: refused (rules R522, R480). -/
def execLahf (s : State) : Result := outcome (s.noMeaning "LAHF")

/-- CMPS m8,m8 | CMPSB: refused (rules R504, R480). -/
def execCmps8 (s : State) : Result := outcome (s.noMeaning "CMPS")

/-- CMPS m16,m16 | m32,m32 | CMPSW | CMPSD: refused (rules R504, R480). -/
def execCmpsv (s : State) : Result := outcome (s.noMeaning "CMPS")

/-- LODS m8 | LODSB: refused (rules R531, R480). -/
def execLods8 (s : State) : Result := outcome (s.noMeaning "LODS")

/-- LODS m16 | m32 | LODSW | LODSD: refused (rules R531, R480). -/
def execLodsv (s : State) : Result := outcome (s.noMeaning "LODS")

/-- LEAVE: refused (rules R526, R480). -/
def execLeave (s : State) : Result := outcome (s.noMeaning "LEAVE")

/-- INT 3: refused (rules R517, R480). -/
def execInt3 (s : State) : Result := outcome (s.noMeaning "INT")

/-- INTO: refused (rules R517, R480). -/
def execInto (s : State) : Result := outcome (s.noMeaning "INTO")

/-- IRET | IRETD: refused (rules R518, R480). -/
def execIret (s : State) : Result := outcome (s.noMeaning "IRET")

/-- IN AL,DX: refused (rules R514, R480). -/
def execInAlDx (s : State) : Result := outcome (s.noMeaning "IN")

/-- IN AX,DX | EAX,DX: refused (rules R514, R480). -/
def execInAxDx (s : State) : Result := outcome (s.noMeaning "IN")

/-- HLT: refused (rules R511, R480). -/
def execHlt (s : State) : Result := outcome (s.noMeaning "HLT")

/-- CLTS: refused (rules R501, R480). -/
def execClts (s : State) : Result := outcome (s.noMeaning "CLTS")

end Sys2Proof.Machine
end

