-- ==== Sys2Proof/Machine/Io.lean ====
section
/-! DEFINITION. OUT and OUTS (43_io.md) over `IoWrite` of rule R96. -/

namespace Sys2Proof.Machine

/-- DX as a port number (rule R301). -/
def State.dx (s : State) : Half := (s.regs.get .edx).extractLsb' 0 16

/-- OUT of the accumulator to a port (rules R300, R301). -/
def State.out (s : State) (port : Half) (w : Width) : M State := do
  s.noLock
  let t ← s.ioWrite port w (s.reg w .eax)
  .ok t.retire

/-- OUTS once: the permission check, the memory read, the output, the index update (rule R302). -/
def outsOnce (w : Width) (s : State) : M State := do
  s.checkIo s.dx.toNat w.bytes
  s.checkRead w s.stringSrc
  let t ← s.ioWrite s.dx w (s.readAt w s.stringSrc)
  .ok (t.advance .esi w)

/-- OUT imm8, AL (rule R300). -/
def execOutImm8Al (imm : BitVec 8) (s : State) : Result := outcome (s.out (imm.setWidth 16) .b8)

/-- OUT imm8, (E)AX (rule R300). -/
def execOutImm8Ax (imm : BitVec 8) (s : State) : Result := outcome (s.out (imm.setWidth 16) s.opWidth)

/-- OUT DX, AL (rule R301). -/
def execOutDxAl (s : State) : Result := outcome (s.out s.dx .b8)

/-- OUT DX, (E)AX (rule R301). -/
def execOutDxAx (s : State) : Result := outcome (s.out s.dx s.opWidth)

/-- OUTSB (rules R302, R303). -/
def execOuts8 (s : State) : Result := outcome do
  s.noLock
  s.repeated neverStops (outsOnce .b8)

/-- OUTSW or OUTSD by `OpSize` (rules R302, R303). -/
def execOutsv (s : State) : Result := outcome do
  s.noLock
  s.repeated neverStops (outsOnce s.opWidth)

end Sys2Proof.Machine
end

