-- ==== Sys2Proof/Machine/Misc.lean ====
section
/-! DEFINITION. NOP, SAHF, SETcc, the flag instructions, WAIT, XCHG and XLAT (47_flags_misc.md; CLC, CLD, CMC and CLI
from 49_encoding_only.md rules R498 to R502). -/

namespace Sys2Proof.Machine

/-- An instruction that only changes the flags (rules R431, R440, R441, R498, R499, R502). -/
def State.onlyFlags (s : State) (f : Flags) : M State := do
  s.noLock
  .ok (s.setFlags f).retire

/-- SETcc r/m8 (rule R432). -/
def State.setCond (s : State) (tttn : BitVec 4) (rm : RM) : M State := do
  s.noLock
  s.writeRM .b8 rm (bit0 (s.flags.cond tttn))

/-- The privilege check of STI and CLI (rules R442, R500). -/
def State.checkIfAccess (s : State) : M Unit :=
  match s.mode with
  | .real => .ok ()
  | .v86 => if s.cfg.v86StiFaults && s.flags.iopl != 3 then raiseGP0 else .ok ()
  | .prot => if s.flags.iopl.toNat < s.cpl.toNat then raiseGP0 else .ok ()

/-- What `InhibitInt` becomes when STI completes: a shadow only if IF was 0 (rules R41, R442). -/
def inhibitAfterSti (wasIf : Bool) : Inhibit := if wasIf then .none else .maskable

/-- XCHG r/m, r: a read and a write under one lock (rule R448). -/
def State.xchgRM (s : State) (w : Width) (rm : RM) (r : Reg) : M State := do
  s.lockMem rm
  let p := s.place rm
  s.checkWrite w p
  .ok ((s.writeAt w p (s.reg w r)).setReg w r (s.readAt w p)).retire

/-- BUSY# is active: only a 387 drives it (rules R42, R446). -/
def State.busy (s : State) : Bool := s.cfg.has387 && s.busyPin

/-- ERROR# is asserted: only a 387 drives it (rules R42, R446). -/
def State.coprocError (s : State) : Bool := s.cfg.has387 && s.errorPin

/-- The outcome `Hold`: nothing changes and the instruction is evaluated again (rules R11, R446). -/
def State.hold (s : State) : State := { s with ctx := {} }

/-- The offset of the XLAT table entry (rule R450). -/
def State.xlatOff (s : State) : Word :=
  s.addrWidth.trunc (s.reg s.addrWidth .ebx + s.reg .b8 .eax)

/-- NOP (rule R430). -/
def execNop (s : State) : Result := outcome do
  s.noLock
  .ok s.retire

/-- SAHF (rule R431). -/
def execSahf (s : State) : Result := outcome (s.onlyFlags (s.flags.sahf (s.reg .b8 .esp)))

/-- SETO r/m8 (rules R432, R433). -/
def execSeto (rm : RM) (s : State) : Result := outcome (s.setCond 0x0 rm)

/-- SETNO r/m8 (rules R432, R433). -/
def execSetno (rm : RM) (s : State) : Result := outcome (s.setCond 0x1 rm)

/-- SETB r/m8 (rules R432, R433). -/
def execSetb (rm : RM) (s : State) : Result := outcome (s.setCond 0x2 rm)

/-- SETNB r/m8 (rules R432, R433). -/
def execSetnb (rm : RM) (s : State) : Result := outcome (s.setCond 0x3 rm)

/-- SETZ r/m8 (rules R432, R433). -/
def execSetz (rm : RM) (s : State) : Result := outcome (s.setCond 0x4 rm)

/-- SETNZ r/m8 (rules R432, R433). -/
def execSetnz (rm : RM) (s : State) : Result := outcome (s.setCond 0x5 rm)

/-- SETBE r/m8 (rules R432, R433). -/
def execSetbe (rm : RM) (s : State) : Result := outcome (s.setCond 0x6 rm)

/-- SETNBE r/m8 (rules R432, R433). -/
def execSetnbe (rm : RM) (s : State) : Result := outcome (s.setCond 0x7 rm)

/-- SETS r/m8 (rules R432, R433). -/
def execSets (rm : RM) (s : State) : Result := outcome (s.setCond 0x8 rm)

/-- SETNS r/m8 (rules R432, R433). -/
def execSetns (rm : RM) (s : State) : Result := outcome (s.setCond 0x9 rm)

/-- SETP r/m8 (rules R432, R433). -/
def execSetp (rm : RM) (s : State) : Result := outcome (s.setCond 0xA rm)

/-- SETNP r/m8 (rules R432, R433). -/
def execSetnp (rm : RM) (s : State) : Result := outcome (s.setCond 0xB rm)

/-- SETL r/m8 (rules R432, R433). -/
def execSetl (rm : RM) (s : State) : Result := outcome (s.setCond 0xC rm)

/-- SETNL r/m8 (rules R432, R433). -/
def execSetnl (rm : RM) (s : State) : Result := outcome (s.setCond 0xD rm)

/-- SETLE r/m8 (rules R432, R433). -/
def execSetle (rm : RM) (s : State) : Result := outcome (s.setCond 0xE rm)

/-- SETNLE r/m8 (rules R432, R433). -/
def execSetnle (rm : RM) (s : State) : Result := outcome (s.setCond 0xF rm)

/-- CLC (rule R498). -/
def execClc (s : State) : Result := outcome (s.onlyFlags { s.flags with cf := false })

/-- STC (rule R440). -/
def execStc (s : State) : Result := outcome (s.onlyFlags { s.flags with cf := true })

/-- CMC (rule R502). -/
def execCmc (s : State) : Result := outcome (s.onlyFlags { s.flags with cf := !s.flags.cf })

/-- CLD (rule R499). -/
def execCld (s : State) : Result := outcome (s.onlyFlags { s.flags with df := false })

/-- STD (rule R441). -/
def execStd (s : State) : Result := outcome (s.onlyFlags { s.flags with df := true })

/-- CLI (rule R500). -/
def execCli (s : State) : Result := outcome do
  s.noLock
  s.checkIfAccess
  .ok (s.setFlags { s.flags with ifl := false }).retire

/-- STI (rule R442). -/
def execSti (s : State) : Result := outcome do
  s.noLock
  s.checkIfAccess
  .ok ((s.setFlags { s.flags with ifl := true }).retireWith (inhibitAfterSti s.flags.ifl))

/-- WAIT: TS, then BUSY#, then ERROR# (rule R446). -/
def execWait (s : State) : Result := outcome do
  s.noLock
  if s.ts then raise .coprocessorNotAvailable none
  if s.busy then .ok s.hold
  else if s.coprocError then raise .coprocessorError none
  else .ok s.retire

/-- XCHG r/m8, r8 (rule R448). -/
def execXchgRm8R8 (rm : RM) (r : Reg) (s : State) : Result := outcome (s.xchgRM .b8 rm r)

/-- XCHG r/m, r at `OpSize` (rule R448). -/
def execXchgRmvRv (rm : RM) (r : Reg) (s : State) : Result := outcome (s.xchgRM s.opWidth rm r)

/-- XCHG (E)AX, r (rule R449). -/
def execXchgAxReg (r : Reg) (s : State) : Result := outcome do
  let w := s.opWidth
  s.noLock
  .ok ((s.setReg w .eax (s.reg w r)).setReg w r (s.reg w .eax)).retire

/-- XLAT (rule R450). -/
def execXlat (s : State) : Result := outcome do
  s.noLock
  let v ← s.memRead (s.segOr .ds) s.xlatOff 1
  .ok (s.setReg .b8 .eax v).retire

end Sys2Proof.Machine
end

