-- ==== Sys2Proof/Machine/Prefix.lean ====
section
/-! DEFINITION. The prefix bytes (rules R113 to R120): each records itself for the instruction it precedes, and a second
prefix of one group is refused (rule R114). -/

namespace Sys2Proof.Machine

/-- A prefix byte has been read: one more byte of the instruction (rule R112, step 1). -/
def State.latch (s : State) (c : Ctx) : State := { s with ctx := { c with len := c.len + 1 } }

/-- A segment-override prefix (rules R114, R120). -/
def State.latchSeg (s : State) (r : SegReg) : M State :=
  match s.ctx.seg with
  | none => .ok (s.latch { s.ctx with seg := some r })
  | some _ => refuse .duplicatePrefix

/-- A repeat prefix; LOCK is of the same group (rules R114, R116). -/
def State.latchRep (s : State) (p : RepPrefix) : M State :=
  if s.ctx.rep.isSome || s.ctx.lock then refuse .duplicatePrefix
  else .ok (s.latch { s.ctx with rep := some p })

/-- The LOCK prefix (rules R114, R115). -/
def State.latchLock (s : State) : M State :=
  if s.ctx.rep.isSome || s.ctx.lock then refuse .duplicatePrefix
  else .ok (s.latch { s.ctx with lock := true })

/-- The operand-size prefix (rules R114, R118). -/
def State.latchOpsz (s : State) : M State :=
  if s.ctx.opsz then refuse .duplicatePrefix else .ok (s.latch { s.ctx with opsz := true })

/-- The address-size prefix (rules R114, R119). -/
def State.latchAdsz (s : State) : M State :=
  if s.ctx.adsz then refuse .duplicatePrefix else .ok (s.latch { s.ctx with adsz := true })

/-- The ES override (rules R113, R120). -/
def execSegEs (s : State) : Result := outcome (s.latchSeg .es)

/-- The CS override (rules R113, R120). -/
def execSegCs (s : State) : Result := outcome (s.latchSeg .cs)

/-- The SS override (rules R113, R120). -/
def execSegSs (s : State) : Result := outcome (s.latchSeg .ss)

/-- The DS override (rules R113, R120). -/
def execSegDs (s : State) : Result := outcome (s.latchSeg .ds)

/-- The FS override (rules R113, R120). -/
def execSegFs (s : State) : Result := outcome (s.latchSeg .fs)

/-- The GS override (rules R113, R120). -/
def execSegGs (s : State) : Result := outcome (s.latchSeg .gs)

/-- 66 (rule R118). -/
def execOpsize (s : State) : Result := outcome (s.latchOpsz)

/-- 67 (rule R119). -/
def execAddrsize (s : State) : Result := outcome (s.latchAdsz)

/-- F0 (rules R92, R115). -/
def execLock (s : State) : Result := outcome (s.latchLock)

/-- F2 (rule R116). -/
def execRepne (s : State) : Result := outcome (s.latchRep .repne)

/-- F3 (rule R116). -/
def execRep (s : State) : Result := outcome (s.latchRep .repe)

end Sys2Proof.Machine
end

