-- ==== Sys2Proof/Machine/Shift.lean ====
section
/-! DEFINITION. The rotates, the shifts, SHLD and SHRD (45_shift_rotate.md). -/

namespace Sys2Proof.Machine

/-- COUNT: the low five bits of 1, CL or the immediate (rule R360). -/
def State.shiftCount (s : State) : Count → Nat
  | .one => 1
  | .cl => (s.reg .b8 .ecx).toNat % 32
  | .imm8 n => n.toNat % 32

/-- A shift or rotate of an operand (rules R361 to R367, R370 to R372). -/
def shiftOp (k : Shift) (w : Width) (count : Nat) (a : Word) (s : State) : Word × State :=
  let r := k.loop w count a s.flags.cf
  (r.1, (s.setFlags (s.flags.shift k w count a r.1 r.2 s.nextDraw)).drawn)

/-- A shift or rotate of r/m: the checks and the write are made whatever the count is (rule R360). -/
def State.shiftRM (s : State) (k : Shift) (w : Width) (rm : RM) (n : Count) : M State := do
  s.noLock
  s.modifyRM w rm (shiftOp k w (s.shiftCount n))

/-- The result and the carry of SHLD for a count from 1 to N - 1 (rule R368). -/
def shldValue (w : Width) (a b : Word) (amt : Nat) : Word × Bool :=
  (w.trunc (a <<< amt) ||| (b >>> (w.bits - amt)), a.getLsbD (w.bits - amt))

/-- The result and the carry of SHRD for a count from 1 to N - 1 (rule R369). -/
def shrdValue (w : Width) (a b : Word) (amt : Nat) : Word × Bool :=
  ((a >>> amt) ||| w.trunc (b <<< (w.bits - amt)), a.getLsbD (amt - 1))

/-- SHLD or SHRD of an operand by a count that is not 0: with a count of N or more the result and all six flags are
drawn (rules R368, R369). -/
def doubleShiftOp (value : Width → Word → Word → Nat → Word × Bool) (w : Width) (b : Word) (amt : Nat) (a : Word)
    (s : State) : Word × State :=
  if w.bits ≤ amt then (w.trunc s.nextDraw, (s.drawn.setFlags (s.flags.undefined s.drawn.nextDraw)).drawn)
  else
    let r := value w a b amt
    (r.1, (s.setFlags (s.flags.doubleShift w r.1 r.2 s.nextDraw)).drawn)

/-- SHLD or SHRD of r/m: the checks are made for every count; a count of 0 changes nothing (rules R368, R369). -/
def State.doubleShift (s : State) (value : Width → Word → Word → Nat → Word × Bool) (rm : RM) (r : Reg)
    (count : Nat) : M State := do
  s.noLock
  if count % 32 = 0 then do
    s.checkWrite s.opWidth (s.place rm)
    .ok s.retire
  else s.modifyRM s.opWidth rm (doubleShiftOp value s.opWidth (s.reg s.opWidth r) (count % 32))

/-- ROL r/m8 by 1, CL or imm8 (rules R360, R361). -/
def execRolRm8 (rm : RM) (n : Count) (s : State) : Result := outcome (s.shiftRM .rol .b8 rm n)

/-- ROL r/m at `OpSize` by 1, CL or imm8 (rules R360, R361). -/
def execRolRmv (rm : RM) (n : Count) (s : State) : Result := outcome (s.shiftRM .rol s.opWidth rm n)

/-- ROR r/m8 by 1, CL or imm8 (rules R360, R362). -/
def execRorRm8 (rm : RM) (n : Count) (s : State) : Result := outcome (s.shiftRM .ror .b8 rm n)

/-- ROR r/m at `OpSize` by 1, CL or imm8 (rules R360, R362). -/
def execRorRmv (rm : RM) (n : Count) (s : State) : Result := outcome (s.shiftRM .ror s.opWidth rm n)

/-- RCL r/m8 by 1, CL or imm8 (rules R360, R363). -/
def execRclRm8 (rm : RM) (n : Count) (s : State) : Result := outcome (s.shiftRM .rcl .b8 rm n)

/-- RCL r/m at `OpSize` by 1, CL or imm8 (rules R360, R363). -/
def execRclRmv (rm : RM) (n : Count) (s : State) : Result := outcome (s.shiftRM .rcl s.opWidth rm n)

/-- RCR r/m8 by 1, CL or imm8 (rules R360, R364). -/
def execRcrRm8 (rm : RM) (n : Count) (s : State) : Result := outcome (s.shiftRM .rcr .b8 rm n)

/-- RCR r/m at `OpSize` by 1, CL or imm8 (rules R360, R364). -/
def execRcrRmv (rm : RM) (n : Count) (s : State) : Result := outcome (s.shiftRM .rcr s.opWidth rm n)

/-- SHL (SAL) r/m8 by 1, CL or imm8 (rules R360, R365). -/
def execShlRm8 (rm : RM) (n : Count) (s : State) : Result := outcome (s.shiftRM .shl .b8 rm n)

/-- SHL (SAL) r/m at `OpSize` by 1, CL or imm8 (rules R360, R365). -/
def execShlRmv (rm : RM) (n : Count) (s : State) : Result := outcome (s.shiftRM .shl s.opWidth rm n)

/-- SHR r/m8 by 1, CL or imm8 (rules R360, R366). -/
def execShrRm8 (rm : RM) (n : Count) (s : State) : Result := outcome (s.shiftRM .shr .b8 rm n)

/-- SHR r/m at `OpSize` by 1, CL or imm8 (rules R360, R366). -/
def execShrRmv (rm : RM) (n : Count) (s : State) : Result := outcome (s.shiftRM .shr s.opWidth rm n)

/-- SAR r/m8 by 1, CL or imm8 (rules R360, R367). -/
def execSarRm8 (rm : RM) (n : Count) (s : State) : Result := outcome (s.shiftRM .sar .b8 rm n)

/-- SAR r/m at `OpSize` by 1, CL or imm8 (rules R360, R367). -/
def execSarRmv (rm : RM) (n : Count) (s : State) : Result := outcome (s.shiftRM .sar s.opWidth rm n)

/-- SHLD r/m, r, imm8 (rule R368). -/
def execShldImm8 (rm : RM) (r : Reg) (imm : BitVec 8) (s : State) : Result :=
  outcome (s.doubleShift shldValue rm r imm.toNat)

/-- SHLD r/m, r, CL (rule R368). -/
def execShldCl (rm : RM) (r : Reg) (s : State) : Result :=
  outcome (s.doubleShift shldValue rm r (s.reg .b8 .ecx).toNat)

/-- SHRD r/m, r, imm8 (rule R369). -/
def execShrdImm8 (rm : RM) (r : Reg) (imm : BitVec 8) (s : State) : Result :=
  outcome (s.doubleShift shrdValue rm r imm.toNat)

/-- SHRD r/m, r, CL (rule R369). -/
def execShrdCl (rm : RM) (r : Reg) (s : State) : Result :=
  outcome (s.doubleShift shrdValue rm r (s.reg .b8 .ecx).toNat)

end Sys2Proof.Machine
end

