-- ==== Sys2Proof/Machine/Stack.lean ====
section
/-! DEFINITION. POP, POPA, POPF, PUSH, PUSHA and PUSHF (44_stack.md). -/

namespace Sys2Proof.Machine

/-- PUSH of a value at `OpSize` (rules R331 to R333, R335). -/
def State.pushValue (s : State) (v : Word) : M State := do
  s.noLock
  let t ← s.push s.opWidth.bytes v
  .ok t.retire

/-- POP into a general register other than (E)SP (rules R322, R324). -/
def State.popInto (s : State) (r : Reg) : M State := do
  let n := s.opWidth.bytes
  if r = .esp then refuse .espOperand
  s.checkPop 0 n
  .ok ((s.popped n).setReg s.opWidth r (s.item 0 n)).retire

/-- POP into memory that ESP does not address: the stack read is checked, then the destination, and then both are
accessed (rules R323, R324). -/
def State.popMem (s : State) (m : Mem) : M State := do
  let n := s.opWidth.bytes
  if espBased (.mem m) then refuse .espOperand
  s.checkPopLimit 0 n
  s.checkTwo s.opWidth (.mem .ss (s.stackUp 0)) (s.place (.mem m))
  .ok ((s.writeAt s.opWidth (s.place (.mem m)) (s.item 0 n)).popped n).retire

/-- POP of a segment register; the stack pointer moves by the old `StackAddrSize` (rules R326, R328). -/
def State.popSeg (s : State) (r : SegReg) : M State := do
  let n := s.opWidth.bytes
  s.noLock
  s.checkPop 0 n
  let t ← s.loadSeg r ((s.item 0 n).extractLsb' 0 16)
  .ok ((t.setReg s.stackWidth .esp (s.stackUp n)).retireWith (inhibitAfterLoad r))

/-- PUSH of a segment register: with `OpSize` 32 the upper half of the item is drawn (rule R334). -/
def State.pushSeg (s : State) (r : SegReg) : M State := do
  s.noLock
  match s.opSize with
  | .s16 => do
    let t ← s.push 2 ((s.seg r).sel.setWidth 32)
    .ok t.retire
  | .s32 => do
    let t ← s.drawn.push 4 (s.nextDraw.extractLsb' 16 16 ++ (s.seg r).sel)
    .ok t.retire

/-- The registers in the order PUSHA stores them; the fifth is the stack pointer (rule R336). -/
def pushaOrder : List Reg := [.eax, .ecx, .edx, .ebx, .esp, .ebp, .esi, .edi]

/-- Values pushed one after the other, without checks (rule R336). -/
def State.pushedAll (s : State) (n : Nat) : List Word → State
  | [] => s
  | v :: vs => State.pushedAll (s.pushed n v) n vs

/-- Registers loaded from the stack items of `s` in order, from the given item on; (E)SP's item is discarded
(rule R337). -/
def State.loadItems (t s : State) (n k : Nat) : List Reg → State
  | [] => t
  | r :: rs =>
    State.loadItems (if r = .esp then t else t.setReg s.opWidth r (s.item (k * n) n)) s n (k + 1) rs

/-- PUSHF and POPF fault in virtual 8086 mode with IOPL < 3 (rules R338, R340). -/
def State.checkFlagAccess (s : State) : M Unit :=
  if s.mode = .v86 ∧ s.flags.iopl ≠ 3 then raiseGP0 else .ok ()

/-- PUSH register; (E)SP is pushed as it was (rules R331, R335). -/
def execPushReg (r : Reg) (s : State) : Result := outcome (s.pushValue (s.reg s.opWidth r))

/-- PUSH imm at `OpSize` (rule R333). -/
def execPushImmv (imm : BitVec 32) (s : State) : Result := outcome (s.pushValue imm)

/-- PUSH sign-extended imm8 (rule R333). -/
def execPushImm8 (imm : BitVec 8) (s : State) : Result := outcome (s.pushValue (s.opWidth.sext8 imm))

/-- PUSH r/m; an ESP-based operand is refused (rules R324, R332, R335). -/
def execPushRm (rm : RM) (s : State) : Result := outcome do
  s.noLock
  if espBased rm then refuse .espOperand
  let v ← s.readRM s.opWidth rm
  s.pushValue v

/-- POP register (rules R322, R324). -/
def execPopReg (r : Reg) (s : State) : Result := outcome do
  s.noLock
  s.popInto r

/-- POP r/m (rules R323, R324). -/
def execPopRm (rm : RM) (s : State) : Result := outcome do
  s.noLock
  match rm with
  | .reg r => s.popInto r
  | .mem m => s.popMem m

/-- PUSH ES (rule R334). -/
def execPushEs (s : State) : Result := outcome (s.pushSeg .es)

/-- PUSH CS (rule R334). -/
def execPushCs (s : State) : Result := outcome (s.pushSeg .cs)

/-- PUSH SS (rule R334). -/
def execPushSs (s : State) : Result := outcome (s.pushSeg .ss)

/-- PUSH DS (rule R334). -/
def execPushDs (s : State) : Result := outcome (s.pushSeg .ds)

/-- PUSH FS (rule R334). -/
def execPushFs (s : State) : Result := outcome (s.pushSeg .fs)

/-- PUSH GS (rule R334). -/
def execPushGs (s : State) : Result := outcome (s.pushSeg .gs)

/-- POP ES (rules R325, R326). -/
def execPopEs (s : State) : Result := outcome (s.popSeg .es)

/-- POP SS (rules R325, R326, R328). -/
def execPopSs (s : State) : Result := outcome (s.popSeg .ss)

/-- POP DS (rules R325, R326). -/
def execPopDs (s : State) : Result := outcome (s.popSeg .ds)

/-- POP FS (rules R327, R326). -/
def execPopFs (s : State) : Result := outcome (s.popSeg .fs)

/-- POP GS (rules R327, R326). -/
def execPopGs (s : State) : Result := outcome (s.popSeg .gs)

/-- PUSHA or PUSHAD: all eight stores are checked first (rule R336). -/
def execPusha (s : State) : Result := outcome do
  let n := s.opWidth.bytes
  s.noLock
  s.checkPushes n 8
  .ok (s.pushedAll n (pushaOrder.map (s.reg s.opWidth))).retire

/-- POPA or POPAD: all eight reads are checked first (rule R337). -/
def execPopa (s : State) : Result := outcome do
  let n := s.opWidth.bytes
  s.noLock
  s.checkPops n 8
  .ok ((s.loadItems s n 0 pushaOrder.reverse).popped (8 * n)).retire

/-- PUSHF or PUSHFD (rule R338). -/
def execPushf (s : State) : Result := outcome do
  s.noLock
  s.checkFlagAccess
  let t ← s.drawn.push s.opWidth.bytes (s.flags.image s.cfg s.nextDraw)
  .ok t.retire

/-- POPF or POPFD; IF and IOPL only with the privilege, without a fault (rule R340). -/
def execPopf (s : State) : Result := outcome do
  let n := s.opWidth.bytes
  s.noLock
  s.checkFlagAccess
  s.checkPop 0 n
  let mayIf := decide (s.mode = .real ∨ s.cpl.toNat ≤ s.flags.iopl.toNat)
  let mayIopl := decide (s.mode = .real ∨ s.cpl = 0)
  .ok ((s.setFlags (s.flags.popped (s.item 0 n) mayIf mayIopl)).popped n).retire

end Sys2Proof.Machine
end

