-- ==== Sys2Proof/Machine/Strings.lean ====
section
/-! DEFINITION. The string instructions MOVS, SCAS and STOS, once or repeated (41_string.md). -/

namespace Sys2Proof.Machine

/-- MOVS once: both operands are checked, then the source is read and the destination written (rule R230). -/
def movsOnce (w : Width) (s : State) : M State := do
  s.checkTwo w s.stringSrc s.stringDst
  .ok (((s.writeAt w s.stringDst (s.readAt w s.stringSrc)).advance .esi w).advance .edi w)

/-- SCAS once: the accumulator minus the memory operand (rule R231). -/
def scasOnce (w : Width) (s : State) : M State := do
  s.checkRead w s.stringDst
  let d := subtract w (s.reg w .eax) (s.readAt w s.stringDst) false
  .ok ((s.setFlags (s.flags.ofDifference w d)).advance .edi w)

/-- STOS once (rule R232). -/
def stosOnce (w : Width) (s : State) : M State := do
  s.checkWrite w s.stringDst
  .ok ((s.writeAt w s.stringDst (s.reg w .eax)).advance .edi w)

/-- A string instruction: it takes no LOCK, and repeats by its prefix (rules R230 to R232, R240). -/
def State.stringOp (s : State) (stops : RepPrefix → State → Bool) (once : State → M State) : M State := do
  s.noLock
  s.repeated stops once

/-- MOVSB (rules R230, R240). -/
def execMovs8 (s : State) : Result := outcome (s.stringOp neverStops (movsOnce .b8))

/-- MOVSW or MOVSD by `OpSize` (rules R230, R240). -/
def execMovsv (s : State) : Result := outcome (s.stringOp neverStops (movsOnce s.opWidth))

/-- SCASB (rules R231, R240). -/
def execScas8 (s : State) : Result := outcome (s.stringOp stopsOnZf (scasOnce .b8))

/-- SCASW or SCASD by `OpSize` (rules R231, R240). -/
def execScasv (s : State) : Result := outcome (s.stringOp stopsOnZf (scasOnce s.opWidth))

/-- STOSB (rules R232, R240). -/
def execStos8 (s : State) : Result := outcome (s.stringOp neverStops (stosOnce .b8))

/-- STOSW or STOSD by `OpSize` (rules R232, R240). -/
def execStosv (s : State) : Result := outcome (s.stringOp neverStops (stosOnce s.opWidth))

end Sys2Proof.Machine
end

