-- ==== Sys2Proof/Machine/Dispatch.lean ====
section
/-! DEFINITION. The dispatch of instructions to their meanings. -/

namespace Sys2Proof.Machine

def exec (i : Instr) (s : State) : Host.Outcome State Fault Refusal :=
  match i with
  | .addRm8R8 rm r => Sys2Proof.Machine.execAddRm8R8 rm r s
  | .addRmvRv rm r => Sys2Proof.Machine.execAddRmvRv rm r s
  | .addR8Rm8 rm r => Sys2Proof.Machine.execAddR8Rm8 rm r s
  | .addRvRmv rm r => Sys2Proof.Machine.execAddRvRmv rm r s
  | .addAlImm8 imm => Sys2Proof.Machine.execAddAlImm8 imm s
  | .addAxImmv imm => Sys2Proof.Machine.execAddAxImmv imm s
  | .addRm8Imm8 rm imm => Sys2Proof.Machine.execAddRm8Imm8 rm imm s
  | .addRmvImmv rm imm => Sys2Proof.Machine.execAddRmvImmv rm imm s
  | .addRmvImm8 rm imm => Sys2Proof.Machine.execAddRmvImm8 rm imm s
  | .orRm8R8 rm r => Sys2Proof.Machine.execOrRm8R8 rm r s
  | .orRmvRv rm r => Sys2Proof.Machine.execOrRmvRv rm r s
  | .orR8Rm8 rm r => Sys2Proof.Machine.execOrR8Rm8 rm r s
  | .orRvRmv rm r => Sys2Proof.Machine.execOrRvRmv rm r s
  | .orAlImm8 imm => Sys2Proof.Machine.execOrAlImm8 imm s
  | .orAxImmv imm => Sys2Proof.Machine.execOrAxImmv imm s
  | .orRm8Imm8 rm imm => Sys2Proof.Machine.execOrRm8Imm8 rm imm s
  | .orRmvImmv rm imm => Sys2Proof.Machine.execOrRmvImmv rm imm s
  | .orRmvImm8 rm imm => Sys2Proof.Machine.execOrRmvImm8 rm imm s
  | .adcRm8R8 rm r => Sys2Proof.Machine.execAdcRm8R8 rm r s
  | .adcRmvRv rm r => Sys2Proof.Machine.execAdcRmvRv rm r s
  | .adcR8Rm8 rm r => Sys2Proof.Machine.execAdcR8Rm8 rm r s
  | .adcRvRmv rm r => Sys2Proof.Machine.execAdcRvRmv rm r s
  | .adcAlImm8 imm => Sys2Proof.Machine.execAdcAlImm8 imm s
  | .adcAxImmv imm => Sys2Proof.Machine.execAdcAxImmv imm s
  | .adcRm8Imm8 rm imm => Sys2Proof.Machine.execAdcRm8Imm8 rm imm s
  | .adcRmvImmv rm imm => Sys2Proof.Machine.execAdcRmvImmv rm imm s
  | .adcRmvImm8 rm imm => Sys2Proof.Machine.execAdcRmvImm8 rm imm s
  | .sbbRm8R8 rm r => Sys2Proof.Machine.execSbbRm8R8 rm r s
  | .sbbRmvRv rm r => Sys2Proof.Machine.execSbbRmvRv rm r s
  | .sbbR8Rm8 rm r => Sys2Proof.Machine.execSbbR8Rm8 rm r s
  | .sbbRvRmv rm r => Sys2Proof.Machine.execSbbRvRmv rm r s
  | .sbbAlImm8 imm => Sys2Proof.Machine.execSbbAlImm8 imm s
  | .sbbAxImmv imm => Sys2Proof.Machine.execSbbAxImmv imm s
  | .sbbRm8Imm8 rm imm => Sys2Proof.Machine.execSbbRm8Imm8 rm imm s
  | .sbbRmvImmv rm imm => Sys2Proof.Machine.execSbbRmvImmv rm imm s
  | .sbbRmvImm8 rm imm => Sys2Proof.Machine.execSbbRmvImm8 rm imm s
  | .andRm8R8 rm r => Sys2Proof.Machine.execAndRm8R8 rm r s
  | .andRmvRv rm r => Sys2Proof.Machine.execAndRmvRv rm r s
  | .andR8Rm8 rm r => Sys2Proof.Machine.execAndR8Rm8 rm r s
  | .andRvRmv rm r => Sys2Proof.Machine.execAndRvRmv rm r s
  | .andAlImm8 imm => Sys2Proof.Machine.execAndAlImm8 imm s
  | .andAxImmv imm => Sys2Proof.Machine.execAndAxImmv imm s
  | .andRm8Imm8 rm imm => Sys2Proof.Machine.execAndRm8Imm8 rm imm s
  | .andRmvImmv rm imm => Sys2Proof.Machine.execAndRmvImmv rm imm s
  | .andRmvImm8 rm imm => Sys2Proof.Machine.execAndRmvImm8 rm imm s
  | .subRm8R8 rm r => Sys2Proof.Machine.execSubRm8R8 rm r s
  | .subRmvRv rm r => Sys2Proof.Machine.execSubRmvRv rm r s
  | .subR8Rm8 rm r => Sys2Proof.Machine.execSubR8Rm8 rm r s
  | .subRvRmv rm r => Sys2Proof.Machine.execSubRvRmv rm r s
  | .subAlImm8 imm => Sys2Proof.Machine.execSubAlImm8 imm s
  | .subAxImmv imm => Sys2Proof.Machine.execSubAxImmv imm s
  | .subRm8Imm8 rm imm => Sys2Proof.Machine.execSubRm8Imm8 rm imm s
  | .subRmvImmv rm imm => Sys2Proof.Machine.execSubRmvImmv rm imm s
  | .subRmvImm8 rm imm => Sys2Proof.Machine.execSubRmvImm8 rm imm s
  | .xorRm8R8 rm r => Sys2Proof.Machine.execXorRm8R8 rm r s
  | .xorRmvRv rm r => Sys2Proof.Machine.execXorRmvRv rm r s
  | .xorR8Rm8 rm r => Sys2Proof.Machine.execXorR8Rm8 rm r s
  | .xorRvRmv rm r => Sys2Proof.Machine.execXorRvRmv rm r s
  | .xorAlImm8 imm => Sys2Proof.Machine.execXorAlImm8 imm s
  | .xorAxImmv imm => Sys2Proof.Machine.execXorAxImmv imm s
  | .xorRm8Imm8 rm imm => Sys2Proof.Machine.execXorRm8Imm8 rm imm s
  | .xorRmvImmv rm imm => Sys2Proof.Machine.execXorRmvImmv rm imm s
  | .xorRmvImm8 rm imm => Sys2Proof.Machine.execXorRmvImm8 rm imm s
  | .cmpRm8R8 rm r => Sys2Proof.Machine.execCmpRm8R8 rm r s
  | .cmpRmvRv rm r => Sys2Proof.Machine.execCmpRmvRv rm r s
  | .cmpR8Rm8 rm r => Sys2Proof.Machine.execCmpR8Rm8 rm r s
  | .cmpRvRmv rm r => Sys2Proof.Machine.execCmpRvRmv rm r s
  | .cmpAlImm8 imm => Sys2Proof.Machine.execCmpAlImm8 imm s
  | .cmpAxImmv imm => Sys2Proof.Machine.execCmpAxImmv imm s
  | .cmpRm8Imm8 rm imm => Sys2Proof.Machine.execCmpRm8Imm8 rm imm s
  | .cmpRmvImmv rm imm => Sys2Proof.Machine.execCmpRmvImmv rm imm s
  | .cmpRmvImm8 rm imm => Sys2Proof.Machine.execCmpRmvImm8 rm imm s
  | .incReg r => Sys2Proof.Machine.execIncReg r s
  | .decReg r => Sys2Proof.Machine.execDecReg r s
  | .pushReg r => Sys2Proof.Machine.execPushReg r s
  | .popReg r => Sys2Proof.Machine.execPopReg r s
  | .bound m r => Sys2Proof.Machine.execBound m r s
  | .arpl rm r => Sys2Proof.Machine.execArpl rm r s
  | .pushImmv imm => Sys2Proof.Machine.execPushImmv imm s
  | .imulRvRmvImmv rm r imm => Sys2Proof.Machine.execImulRvRmvImmv rm r imm s
  | .pushImm8 imm => Sys2Proof.Machine.execPushImm8 imm s
  | .imulRvRmvImm8 rm r imm => Sys2Proof.Machine.execImulRvRmvImm8 rm r imm s
  | .jo rel => Sys2Proof.Machine.execJo rel s
  | .jno rel => Sys2Proof.Machine.execJno rel s
  | .jb rel => Sys2Proof.Machine.execJb rel s
  | .jnb rel => Sys2Proof.Machine.execJnb rel s
  | .jz rel => Sys2Proof.Machine.execJz rel s
  | .jnz rel => Sys2Proof.Machine.execJnz rel s
  | .jbe rel => Sys2Proof.Machine.execJbe rel s
  | .jnbe rel => Sys2Proof.Machine.execJnbe rel s
  | .js rel => Sys2Proof.Machine.execJs rel s
  | .jns rel => Sys2Proof.Machine.execJns rel s
  | .jp rel => Sys2Proof.Machine.execJp rel s
  | .jnp rel => Sys2Proof.Machine.execJnp rel s
  | .jl rel => Sys2Proof.Machine.execJl rel s
  | .jnl rel => Sys2Proof.Machine.execJnl rel s
  | .jle rel => Sys2Proof.Machine.execJle rel s
  | .jnle rel => Sys2Proof.Machine.execJnle rel s
  | .testRm8R8 rm r => Sys2Proof.Machine.execTestRm8R8 rm r s
  | .testRmvRv rm r => Sys2Proof.Machine.execTestRmvRv rm r s
  | .xchgRm8R8 rm r => Sys2Proof.Machine.execXchgRm8R8 rm r s
  | .xchgRmvRv rm r => Sys2Proof.Machine.execXchgRmvRv rm r s
  | .movRm8R8 rm r => Sys2Proof.Machine.execMovRm8R8 rm r s
  | .movRmvRv rm r => Sys2Proof.Machine.execMovRmvRv rm r s
  | .movR8Rm8 rm r => Sys2Proof.Machine.execMovR8Rm8 rm r s
  | .movRvRmv rm r => Sys2Proof.Machine.execMovRvRmv rm r s
  | .movRm16Sreg rm sr => Sys2Proof.Machine.execMovRm16Sreg rm sr s
  | .lea m r => Sys2Proof.Machine.execLea m r s
  | .movSregRm16 rm sr => Sys2Proof.Machine.execMovSregRm16 rm sr s
  | .popRm rm => Sys2Proof.Machine.execPopRm rm s
  | .xchgAxReg r => Sys2Proof.Machine.execXchgAxReg r s
  | .callPtr off sel => Sys2Proof.Machine.execCallPtr off sel s
  | .movAlMoffs off => Sys2Proof.Machine.execMovAlMoffs off s
  | .movAxMoffs off => Sys2Proof.Machine.execMovAxMoffs off s
  | .movMoffsAl off => Sys2Proof.Machine.execMovMoffsAl off s
  | .movMoffsAx off => Sys2Proof.Machine.execMovMoffsAx off s
  | .testAlImm8 imm => Sys2Proof.Machine.execTestAlImm8 imm s
  | .testAxImmv imm => Sys2Proof.Machine.execTestAxImmv imm s
  | .movReg8Imm8 r imm => Sys2Proof.Machine.execMovReg8Imm8 r imm s
  | .movRegvImmv r imm => Sys2Proof.Machine.execMovRegvImmv r imm s
  | .rolRm8 rm n => Sys2Proof.Machine.execRolRm8 rm n s
  | .rolRmv rm n => Sys2Proof.Machine.execRolRmv rm n s
  | .rorRm8 rm n => Sys2Proof.Machine.execRorRm8 rm n s
  | .rorRmv rm n => Sys2Proof.Machine.execRorRmv rm n s
  | .rclRm8 rm n => Sys2Proof.Machine.execRclRm8 rm n s
  | .rclRmv rm n => Sys2Proof.Machine.execRclRmv rm n s
  | .rcrRm8 rm n => Sys2Proof.Machine.execRcrRm8 rm n s
  | .rcrRmv rm n => Sys2Proof.Machine.execRcrRmv rm n s
  | .shlRm8 rm n => Sys2Proof.Machine.execShlRm8 rm n s
  | .shlRmv rm n => Sys2Proof.Machine.execShlRmv rm n s
  | .shrRm8 rm n => Sys2Proof.Machine.execShrRm8 rm n s
  | .shrRmv rm n => Sys2Proof.Machine.execShrRmv rm n s
  | .sarRm8 rm n => Sys2Proof.Machine.execSarRm8 rm n s
  | .sarRmv rm n => Sys2Proof.Machine.execSarRmv rm n s
  | .retNearImm imm => Sys2Proof.Machine.execRetNearImm imm s
  | .les m r => Sys2Proof.Machine.execLes m r s
  | .lds m r => Sys2Proof.Machine.execLds m r s
  | .movRm8Imm8 rm imm => Sys2Proof.Machine.execMovRm8Imm8 rm imm s
  | .movRmvImmv rm imm => Sys2Proof.Machine.execMovRmvImmv rm imm s
  | .enter imm level => Sys2Proof.Machine.execEnter imm level s
  | .retFarImm imm => Sys2Proof.Machine.execRetFarImm imm s
  | .intImm8 imm => Sys2Proof.Machine.execIntImm8 imm s
  | .esc low ext rm => Sys2Proof.Machine.execEsc low ext rm s
  | .loopne rel => Sys2Proof.Machine.execLoopne rel s
  | .loope rel => Sys2Proof.Machine.execLoope rel s
  | .loop rel => Sys2Proof.Machine.execLoop rel s
  | .jcxz rel => Sys2Proof.Machine.execJcxz rel s
  | .inAlImm8 imm => Sys2Proof.Machine.execInAlImm8 imm s
  | .inAxImm8 imm => Sys2Proof.Machine.execInAxImm8 imm s
  | .outImm8Al imm => Sys2Proof.Machine.execOutImm8Al imm s
  | .outImm8Ax imm => Sys2Proof.Machine.execOutImm8Ax imm s
  | .callRel rel => Sys2Proof.Machine.execCallRel rel s
  | .jmpRel rel => Sys2Proof.Machine.execJmpRel rel s
  | .jmpPtr off sel => Sys2Proof.Machine.execJmpPtr off sel s
  | .jmpRel8 rel => Sys2Proof.Machine.execJmpRel8 rel s
  | .testRm8Imm8 rm imm => Sys2Proof.Machine.execTestRm8Imm8 rm imm s
  | .notRm8 rm => Sys2Proof.Machine.execNotRm8 rm s
  | .negRm8 rm => Sys2Proof.Machine.execNegRm8 rm s
  | .mulRm8 rm => Sys2Proof.Machine.execMulRm8 rm s
  | .imulRm8 rm => Sys2Proof.Machine.execImulRm8 rm s
  | .divRm8 rm => Sys2Proof.Machine.execDivRm8 rm s
  | .idivRm8 rm => Sys2Proof.Machine.execIdivRm8 rm s
  | .testRmvImmv rm imm => Sys2Proof.Machine.execTestRmvImmv rm imm s
  | .notRmv rm => Sys2Proof.Machine.execNotRmv rm s
  | .negRmv rm => Sys2Proof.Machine.execNegRmv rm s
  | .mulRmv rm => Sys2Proof.Machine.execMulRmv rm s
  | .imulRmv rm => Sys2Proof.Machine.execImulRmv rm s
  | .divRmv rm => Sys2Proof.Machine.execDivRmv rm s
  | .idivRmv rm => Sys2Proof.Machine.execIdivRmv rm s
  | .incRm8 rm => Sys2Proof.Machine.execIncRm8 rm s
  | .decRm8 rm => Sys2Proof.Machine.execDecRm8 rm s
  | .incRmv rm => Sys2Proof.Machine.execIncRmv rm s
  | .decRmv rm => Sys2Proof.Machine.execDecRmv rm s
  | .callRmv rm => Sys2Proof.Machine.execCallRmv rm s
  | .callMem m => Sys2Proof.Machine.execCallMem m s
  | .jmpRmv rm => Sys2Proof.Machine.execJmpRmv rm s
  | .jmpMem m => Sys2Proof.Machine.execJmpMem m s
  | .pushRm rm => Sys2Proof.Machine.execPushRm rm s
  | .sldt rm => Sys2Proof.Machine.execSldt rm s
  | .str rm => Sys2Proof.Machine.execStr rm s
  | .lldt rm => Sys2Proof.Machine.execLldt rm s
  | .ltr rm => Sys2Proof.Machine.execLtr rm s
  | .verr rm => Sys2Proof.Machine.execVerr rm s
  | .verw rm => Sys2Proof.Machine.execVerw rm s
  | .sgdt rm => Sys2Proof.Machine.execSgdt rm s
  | .sidt rm => Sys2Proof.Machine.execSidt rm s
  | .lgdt m => Sys2Proof.Machine.execLgdt m s
  | .lidt m => Sys2Proof.Machine.execLidt m s
  | .smsw rm => Sys2Proof.Machine.execSmsw rm s
  | .lmsw rm => Sys2Proof.Machine.execLmsw rm s
  | .lar rm r => Sys2Proof.Machine.execLar rm r s
  | .lsl rm r => Sys2Proof.Machine.execLsl rm r s
  | .movR32Cr c r => Sys2Proof.Machine.execMovR32Cr c r s
  | .movR32Dr d r => Sys2Proof.Machine.execMovR32Dr d r s
  | .movCrR32 c r => Sys2Proof.Machine.execMovCrR32 c r s
  | .movDrR32 d r => Sys2Proof.Machine.execMovDrR32 d r s
  | .movR32Tr t r => Sys2Proof.Machine.execMovR32Tr t r s
  | .movTrR32 t r => Sys2Proof.Machine.execMovTrR32 t r s
  | .seto rm => Sys2Proof.Machine.execSeto rm s
  | .setno rm => Sys2Proof.Machine.execSetno rm s
  | .setb rm => Sys2Proof.Machine.execSetb rm s
  | .setnb rm => Sys2Proof.Machine.execSetnb rm s
  | .setz rm => Sys2Proof.Machine.execSetz rm s
  | .setnz rm => Sys2Proof.Machine.execSetnz rm s
  | .setbe rm => Sys2Proof.Machine.execSetbe rm s
  | .setnbe rm => Sys2Proof.Machine.execSetnbe rm s
  | .sets rm => Sys2Proof.Machine.execSets rm s
  | .setns rm => Sys2Proof.Machine.execSetns rm s
  | .setp rm => Sys2Proof.Machine.execSetp rm s
  | .setnp rm => Sys2Proof.Machine.execSetnp rm s
  | .setl rm => Sys2Proof.Machine.execSetl rm s
  | .setnl rm => Sys2Proof.Machine.execSetnl rm s
  | .setle rm => Sys2Proof.Machine.execSetle rm s
  | .setnle rm => Sys2Proof.Machine.execSetnle rm s
  | .btRmvRv rm r => Sys2Proof.Machine.execBtRmvRv rm r s
  | .shldImm8 rm r imm => Sys2Proof.Machine.execShldImm8 rm r imm s
  | .shldCl rm r => Sys2Proof.Machine.execShldCl rm r s
  | .btsRmvRv rm r => Sys2Proof.Machine.execBtsRmvRv rm r s
  | .shrdImm8 rm r imm => Sys2Proof.Machine.execShrdImm8 rm r imm s
  | .shrdCl rm r => Sys2Proof.Machine.execShrdCl rm r s
  | .imulRvRmv rm r => Sys2Proof.Machine.execImulRvRmv rm r s
  | .lss m r => Sys2Proof.Machine.execLss m r s
  | .btrRmvRv rm r => Sys2Proof.Machine.execBtrRmvRv rm r s
  | .lfs m r => Sys2Proof.Machine.execLfs m r s
  | .lgs m r => Sys2Proof.Machine.execLgs m r s
  | .movzx8 rm r => Sys2Proof.Machine.execMovzx8 rm r s
  | .movzx16 rm r => Sys2Proof.Machine.execMovzx16 rm r s
  | .btRmvImm8 rm imm => Sys2Proof.Machine.execBtRmvImm8 rm imm s
  | .btsRmvImm8 rm imm => Sys2Proof.Machine.execBtsRmvImm8 rm imm s
  | .btrRmvImm8 rm imm => Sys2Proof.Machine.execBtrRmvImm8 rm imm s
  | .btcRmvImm8 rm imm => Sys2Proof.Machine.execBtcRmvImm8 rm imm s
  | .btcRmvRv rm r => Sys2Proof.Machine.execBtcRmvRv rm r s
  | .bsf rm r => Sys2Proof.Machine.execBsf rm r s
  | .bsr rm r => Sys2Proof.Machine.execBsr rm r s
  | .movsx8 rm r => Sys2Proof.Machine.execMovsx8 rm r s
  | .movsx16 rm r => Sys2Proof.Machine.execMovsx16 rm r s
  | .segEs => Sys2Proof.Machine.execSegEs s
  | .segCs => Sys2Proof.Machine.execSegCs s
  | .segSs => Sys2Proof.Machine.execSegSs s
  | .segDs => Sys2Proof.Machine.execSegDs s
  | .segFs => Sys2Proof.Machine.execSegFs s
  | .segGs => Sys2Proof.Machine.execSegGs s
  | .opsize => Sys2Proof.Machine.execOpsize s
  | .addrsize => Sys2Proof.Machine.execAddrsize s
  | .lock => Sys2Proof.Machine.execLock s
  | .repne => Sys2Proof.Machine.execRepne s
  | .rep => Sys2Proof.Machine.execRep s
  | .pushEs => Sys2Proof.Machine.execPushEs s
  | .popEs => Sys2Proof.Machine.execPopEs s
  | .pushCs => Sys2Proof.Machine.execPushCs s
  | .pushSs => Sys2Proof.Machine.execPushSs s
  | .popSs => Sys2Proof.Machine.execPopSs s
  | .pushDs => Sys2Proof.Machine.execPushDs s
  | .popDs => Sys2Proof.Machine.execPopDs s
  | .daa => Sys2Proof.Machine.execDaa s
  | .das => Sys2Proof.Machine.execDas s
  | .aaa => Sys2Proof.Machine.execAaa s
  | .aas => Sys2Proof.Machine.execAas s
  | .aam => Sys2Proof.Machine.execAam s
  | .aad => Sys2Proof.Machine.execAad s
  | .pusha => Sys2Proof.Machine.execPusha s
  | .popa => Sys2Proof.Machine.execPopa s
  | .ins8 => Sys2Proof.Machine.execIns8 s
  | .insv => Sys2Proof.Machine.execInsv s
  | .outs8 => Sys2Proof.Machine.execOuts8 s
  | .outsv => Sys2Proof.Machine.execOutsv s
  | .nop => Sys2Proof.Machine.execNop s
  | .cbw => Sys2Proof.Machine.execCbw s
  | .cwd => Sys2Proof.Machine.execCwd s
  | .wait => Sys2Proof.Machine.execWait s
  | .pushf => Sys2Proof.Machine.execPushf s
  | .popf => Sys2Proof.Machine.execPopf s
  | .sahf => Sys2Proof.Machine.execSahf s
  | .lahf => Sys2Proof.Machine.execLahf s
  | .movs8 => Sys2Proof.Machine.execMovs8 s
  | .movsv => Sys2Proof.Machine.execMovsv s
  | .cmps8 => Sys2Proof.Machine.execCmps8 s
  | .cmpsv => Sys2Proof.Machine.execCmpsv s
  | .stos8 => Sys2Proof.Machine.execStos8 s
  | .stosv => Sys2Proof.Machine.execStosv s
  | .lods8 => Sys2Proof.Machine.execLods8 s
  | .lodsv => Sys2Proof.Machine.execLodsv s
  | .scas8 => Sys2Proof.Machine.execScas8 s
  | .scasv => Sys2Proof.Machine.execScasv s
  | .retNear => Sys2Proof.Machine.execRetNear s
  | .leave => Sys2Proof.Machine.execLeave s
  | .retFar => Sys2Proof.Machine.execRetFar s
  | .int3 => Sys2Proof.Machine.execInt3 s
  | .into => Sys2Proof.Machine.execInto s
  | .iret => Sys2Proof.Machine.execIret s
  | .xlat => Sys2Proof.Machine.execXlat s
  | .inAlDx => Sys2Proof.Machine.execInAlDx s
  | .inAxDx => Sys2Proof.Machine.execInAxDx s
  | .outDxAl => Sys2Proof.Machine.execOutDxAl s
  | .outDxAx => Sys2Proof.Machine.execOutDxAx s
  | .hlt => Sys2Proof.Machine.execHlt s
  | .cmc => Sys2Proof.Machine.execCmc s
  | .clc => Sys2Proof.Machine.execClc s
  | .stc => Sys2Proof.Machine.execStc s
  | .cli => Sys2Proof.Machine.execCli s
  | .sti => Sys2Proof.Machine.execSti s
  | .cld => Sys2Proof.Machine.execCld s
  | .std => Sys2Proof.Machine.execStd s
  | .clts => Sys2Proof.Machine.execClts s
  | .pushFs => Sys2Proof.Machine.execPushFs s
  | .popFs => Sys2Proof.Machine.execPopFs s
  | .pushGs => Sys2Proof.Machine.execPushGs s
  | .popGs => Sys2Proof.Machine.execPopGs s

end Sys2Proof.Machine
end

