-- ==== Sys2Proof/Machine/Fetch.lean ====
section
/-! DEFINITION. Instruction fetch: the bytes at CS:EIP with the checks on each (rules R24, R93, R112, R149, R404), and the
running of the instruction they begin. -/

namespace Sys2Proof.Machine

/-- The physical address of byte `i` at CS:EIP (rules R24, R112). -/
def State.codeAddr (s : State) (i : Nat) : Nat := s.byteAddr .cs s.eip i

/-- The offset of byte `i` of the instruction, formed without wrap (rules R25, R404; D21). -/
def State.codeOffset (s : State) (i : Nat) : Nat := s.eip.toNat + (if s.eipCarry then 2 ^ 32 else 0) + i

/-- Why byte `i` at CS:EIP cannot be fetched, if it cannot: the code limit, then the host's memory map, then
`SMC_POLICY` (rules R79, R93, R404). -/
def State.fetchStop (s : State) (i : Nat) : Option Stop :=
  if s.codeLimit < s.codeOffset i then some (.fault s.codeFault)
  else
    match s.accessRefusal (s.codeAddr i) with
    | some why => some (.refused why)
    | none =>
      if s.cfg.smcPolicy = .refuse ∧ s.codeAddr i ∈ s.stored then some (.refused .selfModified) else none

/-- The bytes that can be fetched from byte `i` on, at most `n` of them, and what a byte after them would meet: an
instruction that needs it is too long when all `n` can be fetched (rule R149). -/
def State.fetchFrom (s : State) (i : Nat) : Nat → List Byte × Stop
  | 0 => ([], .refused .instructionTooLong)
  | n + 1 =>
    match s.fetchStop i with
    | some stop => ([], stop)
    | none =>
      let rest := State.fetchFrom s (i + 1) n
      (s.mem.read (s.codeAddr i) :: rest.1, rest.2)

/-- The bytes at CS:EIP up to `MAX_INSTRUCTION_LENGTH` (rules R112, R149). -/
def State.window (s : State) : List Byte × Stop := s.fetchFrom 0 s.cfg.maxInstructionLength

/-- The state in which the instruction executes: the whole instruction's length is known (rule R112, step 7). -/
def State.withLength (s : State) (n : Nat) : State := { s with ctx := { s.ctx with len := s.ctx.len + n } }

/-- Decode the bytes under the size attributes of the prefixes read, and execute; bytes that end too early meet what
the next byte would have met (rule R112, steps 2 to 7). -/
def runDecoded (ex : Instr → State → Result) (bs : List Byte) (stop : Stop) (s : State) : Result :=
  match decode s.opSize s.addrSize bs with
  | .ok (i, rest) => ex i (s.withLength (bs.length - rest.length))
  | .error .short => outcome (.error stop)
  | .error (.rejected why) => .refused (.reservedEncoding why)

/-- Consume prefix bytes, then run the instruction (rule R112, step 1). -/
def runBytes (ex : Instr → State → Result) : List Byte → Stop → State → Result
  | [], stop, _ => outcome (.error stop)
  | b :: bs, stop, s =>
    match decodePrefix b with
    | none => runDecoded ex (b :: bs) stop s
    | some p =>
      match ex p s with
      | .next t => runBytes ex bs stop t
      | r => r

/-- The states that the spec does not step from: TF = 1, paging on, a breakpoint enabled, an interrupt that is taken here
(rules R28, R39, R88, R620). DESIGN CHOICE (log entry 30): a state that is refused on more than one of these grounds is
refused on the first of them in this order; the spec gives none (rule R691). -/
def State.unsteppable (s : State) : Option Refusal :=
  if s.flags.tf then some .trapFlagSet
  else if s.pg then some .paging
  else if s.dr7.extractLsb' 0 8 ≠ 0 then some .breakpointsEnabled
  else if s.takesInterrupt then some .interruptDelivery
  else none

/-- The state between instructions, before a prefix is read. -/
def State.fresh (s : State) : State := { s with ctx := {} }

/-- One step: one instruction with its prefixes, or one iteration of a repeated one (rules R112, R240, R620). -/
def runInstruction (ex : Instr → State → Result) (s : State) : Result :=
  match s.unsteppable with
  | some why => .refused why
  | none => runBytes ex s.fresh.window.1 s.fresh.window.2 s.fresh

/-- Memory with the bytes at the addresses. -/
def writeBytes (m : Memory) : List Nat → List Byte → Memory
  | a :: as, b :: bs => writeBytes (m.write a b) as bs
  | _, _ => m

/-- The instruction given as a number, stored where the next step fetches it, with nothing noted as stored to and no
carry out of EIP. -/
def State.placeInstruction (s : State) (nbits w : Nat) : State :=
  { s with
    mem := writeBytes s.mem ((List.range longestInstruction).map s.codeAddr) (bytesOfTableWord nbits w)
    stored := []
    eipCarry := false }

end Sys2Proof.Machine
end

