-- ==== Sys2Proof/Machine/Step.lean ====
section
/-! DEFINITION. One step of the machine, and the placing of an instruction where the next step fetches it. -/

namespace Sys2Proof.Machine

/-- One step (rule R620): the instruction at CS:EIP, whole or one iteration of it. -/
def step (s : State) : Host.Outcome State Fault Refusal := runInstruction exec s

/-- The state with an instruction stored where `step` fetches its next instruction. -/
def State.withFetchWord (s : State) (nbits w : Nat) : State := s.placeInstruction nbits w

end Sys2Proof.Machine
end

