-- ==== Sys2Proof/Safety.lean ====
section
/-! DEFINITION. The terms the claims use: when an access is allowed, what a step keeps, what a well-formed start of a run
is, and what a safe run is. -/

namespace Sys2Proof.Machine

/-! ### When an instruction may go ahead -/

/-- The instruction being executed carries no LOCK prefix (rule R92). -/
def State.Unlocked (s : State) : Prop := s.ctx.lock = false

/-- A LOCK prefix, if there is one, stands before a memory destination (rules R92, R270). -/
def State.LockFits (s : State) (rm : RM) : Prop := s.ctx.lock = true → ∃ m, rm = .mem m

/-- The host backs every address with memory, RAM or ROM (rule R79). -/
def State.Backed (s : State) (as : List Nat) : Prop :=
  ∀ a ∈ as, s.backing a = some .ram ∨ s.backing a = some .rom

/-- The access of rule R72 passes its checks: in protected mode the segment register holds no null selector and its
rights allow the access, in every mode the operand is in the limit, and the host backs its bytes. -/
structure State.MayAccess (s : State) (k : Access) (r : SegReg) (off : Word) (n : Nat) : Prop where
  usable : s.mode = .prot → nullable r = true → (s.seg r).valid = true
  allowed : s.mode = .prot → (s.seg r).rights.allows k = true
  inside : s.inLimit r off n = true
  backed : s.Backed (s.addrs r off n)

/-- The operand can be read (rule R200). -/
def State.MayRead (s : State) (w : Width) : Place → Prop
  | .reg _ => True
  | .mem g off => s.MayAccess .read g off w.bytes

/-- The operand can be written: `CheckWrite_N` of rule R200 passes. -/
def State.MayWrite (s : State) (w : Width) : Place → Prop
  | .reg _ => True
  | .mem g off => s.MayAccess .write g off w.bytes

/-- A push of an item of `n` bytes that starts `k` bytes below the top passes its checks (rule R320). -/
structure State.MayPush (s : State) (k n : Nat) : Prop where
  writable : (s.seg .ss).rights.writable = true
  inside : s.inLimit .ss (s.stackDown k) n = true
  backed : s.Backed (s.addrs .ss (s.stackDown k) n)

/-- The read of a stack item of `n` bytes, `k` bytes above the top, passes its checks (rule R321). -/
def State.MayPop (s : State) (k n : Nat) : Prop := s.MayAccess .read .ss (s.stackUp k) n

/-- The operands of SGDT and SIDT at `g:off` pass their checks: the six bytes as one operand by steps 1 and 2 of rule R72,
then the store of LIMIT and that of BASE (rules R460, R461). -/
structure State.MayStoreTable (s : State) (g : SegReg) (off : Word) : Prop where
  whole : s.accessFault .write g off 6 = none
  limit : s.MayAccess .write g off 2
  base : s.MayAccess .write g (s.tableBaseOff off) 4

/-- The modes and level in which MOV to and from special registers runs (rule R209). -/
def State.Privileged (s : State) : Prop := s.mode = .real ∨ (s.mode = .prot ∧ s.cpl = 0)

/-- An output needs no permission map: real-address mode, or protected mode with CPL ≤ IOPL (rule R304). -/
def State.IoFree (s : State) : Prop :=
  s.mode = .real ∨ (s.mode = .prot ∧ s.cpl.toNat ≤ s.flags.iopl.toNat)

/-- An output to `n` ports from `port` on passes its protection check: it needs no permission map, or the map allows it
(rules R97, R304). -/
def State.MayOutput (s : State) (port n : Nat) : Prop := s.IoFree ∨ s.ioPermission port n = .ok true

/-! ### How an instruction stops at a check -/

/-- The addresses of an operand of width `w` that is memory (rule R72). -/
def State.placeAddrs (s : State) (w : Width) : Place → List Nat
  | .reg _ => []
  | .mem g off => s.addrs g off w.bytes

/-- The fault of an operand by steps 1 and 2 of rule R72, if there is one. -/
def State.placeFault (s : State) (k : Access) (w : Width) : Place → Option Fault
  | .reg _ => none
  | .mem g off => s.accessFault k g off w.bytes

/-- The instruction ends in what the check of its memory operand raises (rules R200, R601, R602), the refusal of an address
that the host does not back with memory after the faults (log entry 20); a register operand needs no check. -/
def State.StopsWithCheck (s : State) (i : Instr) (k : Access) (w : Width) (p : Place) : Prop :=
  ∀ g off e, p = .mem g off → s.checkAccess k g off w.bytes = .error e → exec i s = outcome (.error e)

/-- The instruction ends in what the check of a push of an item of `n` bytes, `k` bytes below the top, raises; without room
for the item in a writable SS that is the outcome of rule R330. -/
def State.StopsWithPush (s : State) (i : Instr) (k n : Nat) : Prop :=
  (∀ e, s.checkPush k n = .error e → exec i s = outcome (.error e)) ∧
    ((s.seg .ss).rights.writable = false ∨ s.inLimit .ss (s.stackDown k) n = false →
      exec i s = .fault
        (if s.mode = .prot then .exception .stackFault (some 0)
          else if s.regs.esp.toNat % 2 ^ 16 ∈ [1, 3, 5] then .shutdown
          else .exception .stackFault (if s.mode = .real then none else some 0)))

/-- The instruction ends in what the check of the read of a stack item of `n` bytes, `k` bytes above the top, raises; an
item out of the limit is the fault of SS (rules R75, R321). -/
def State.StopsWithPop (s : State) (i : Instr) (k n : Nat) : Prop :=
  (∀ e, s.checkPop k n = .error e → exec i s = outcome (.error e)) ∧
    (s.inLimit .ss (s.stackUp k) n = false →
      exec i s = .fault (.exception .stackFault (if s.mode = .real then none else some 0)))

/-- The instruction, which makes the checks of a read operand and of a written one before it accesses either, ends in the
fault of the first, else of the second, else in the refusal of the first byte of them that the host does not back with
memory (rules R72, R79). -/
structure State.StopsWithTwo (s : State) (i : Instr) (w : Width) (src dst : Place) : Prop where
  read : ∀ f, s.placeFault .read w src = some f → exec i s = .fault f
  write : s.placeFault .read w src = none → ∀ f, s.placeFault .write w dst = some f → exec i s = .fault f
  backed : s.placeFault .read w src = none → s.placeFault .write w dst = none →
    ∀ why, s.backRefusal (s.placeAddrs w src ++ s.placeAddrs w dst) = some why → exec i s = .refused why

/-- The instruction, which pushes `m` items of `n` bytes, ends in the outcome of rule R330 when one of them has no room in
a writable SS, and is refused when all have room and the host does not back a byte of one with memory, as the first such
byte of the first such item says (rules R79, R330, R336). -/
structure State.StopsWithPushes (s : State) (i : Instr) (n m : Nat) : Prop where
  room : (∃ j, j < m ∧
      ((s.seg .ss).rights.writable = false ∨ s.inLimit .ss (s.stackDown ((j + 1) * n)) n = false)) →
    exec i s = .fault
      (if s.mode = .prot then .exception .stackFault (some 0)
        else if s.regs.esp.toNat % 2 ^ 16 ∈ [1, 3, 5] then .shutdown
        else .exception .stackFault (if s.mode = .real then none else some 0))
  backed : (s.seg .ss).rights.writable = true → (∀ j, j < m → s.inLimit .ss (s.stackDown ((j + 1) * n)) n = true) →
    ∀ why, s.backRefusal ((List.range m).flatMap fun j => s.addrs .ss (s.stackDown ((j + 1) * n)) n) = some why →
      exec i s = .refused why

/-- The instruction, which reads `m` stack items of `n` bytes, ends in the fault of SS when one of them is out of the limit;
when all are within it, in #GP(0) when SS cannot be read, and else in the refusal of the first byte that the host does not
back with memory (rules R72, R79, R337, R402). -/
structure State.StopsWithPops (s : State) (i : Instr) (n m : Nat) : Prop where
  limit : (∃ j, j < m ∧ s.inLimit .ss (s.stackUp (j * n)) n = false) →
    exec i s = .fault (.exception .stackFault (if s.mode = .real then none else some 0))
  rights : 0 < m → (∀ j, j < m → s.inLimit .ss (s.stackUp (j * n)) n = true) → s.mode = .prot →
    (s.seg .ss).rights.readable = false → exec i s = .fault (.exception .generalProtection (some 0))
  backed : (∀ j, j < m → s.inLimit .ss (s.stackUp (j * n)) n = true) →
    (s.mode = .prot → (s.seg .ss).rights.readable = true) →
    ∀ why, s.backRefusal ((List.range m).flatMap fun j => s.addrs .ss (s.stackUp (j * n)) n) = some why →
      exec i s = .refused why

/-- The first test that the code segment of a far return to level `level` fails, with its exception: the selector's entry
is in its table, it is a code segment, of level `level` if not conforming and of that or a more privileged one if
conforming, and present (rules R405, R406). -/
def returnCodeFault (sel : Half) (level : BitVec 2) : Option Descriptor → Option Fault
  | none => some (.exception .generalProtection (some (sel &&& 0xFFFC)))
  | some d =>
    if (∀ x c, d.rights.kind ≠ .code x c) ∨ ((∃ x, d.rights.kind = .code x false) ∧ d.rights.dpl ≠ level) ∨
        ((∃ x, d.rights.kind = .code x true) ∧ level.toNat < d.rights.dpl.toNat) then
      some (.exception .generalProtection (some (sel &&& 0xFFFC)))
    else if d.rights.present = false then some (.exception .segmentNotPresent (some (sel &&& 0xFFFC)))
    else none

/-- The first test that the stack segment of a far return to an outer level fails, with its exception: the selector's
entry is in its table, RPL and DPL are the level, it is writable data, and present (rule R406). -/
def returnStackFault (sel : Half) (level : BitVec 2) : Option Descriptor → Option Fault
  | none => some (.exception .generalProtection (some (sel &&& 0xFFFC)))
  | some e =>
    if sel.extractLsb' 0 2 ≠ level ∨ (∀ down, e.rights.kind ≠ .data true down) ∨ e.rights.dpl ≠ level then
      some (.exception .generalProtection (some (sel &&& 0xFFFC)))
    else if e.rights.present = false then some (.exception .segmentNotPresent (some (sel &&& 0xFFFC)))
    else none

/-! ### How an instruction ends -/

/-- The result is written to the operand, and the instruction completes: `WriteOp_N(op, r)` and `pc <- EIP_next` from the
state that holds the flags (rules R200, R25). -/
def Place.finish (w : Width) (p : Place) (r : Word × State) : State := (r.2.writeAt w p r.1).retire

/-- The rows of the opcode table that are prefix bytes (rule R113). -/
def isPrefix : Instr → Bool
  | .segEs | .segCs | .segSs | .segDs | .segFs | .segGs | .opsize | .addrsize | .lock | .repne | .rep => true
  | _ => false

/-- The forms before which LOCK is accepted: OR, SBB, SUB, XOR, NEG, NOT and XCHG with a memory destination
(rules R92, R270). -/
def acceptsLock : Instr → Bool
  | .orRm8R8 (.mem _) _ | .orRmvRv (.mem _) _ | .orRm8Imm8 (.mem _) _ | .orRmvImmv (.mem _) _
  | .orRmvImm8 (.mem _) _ => true
  | .sbbRm8R8 (.mem _) _ | .sbbRmvRv (.mem _) _ | .sbbRm8Imm8 (.mem _) _ | .sbbRmvImmv (.mem _) _
  | .sbbRmvImm8 (.mem _) _ => true
  | .subRm8R8 (.mem _) _ | .subRmvRv (.mem _) _ | .subRm8Imm8 (.mem _) _ | .subRmvImmv (.mem _) _
  | .subRmvImm8 (.mem _) _ => true
  | .xorRm8R8 (.mem _) _ | .xorRmvRv (.mem _) _ | .xorRm8Imm8 (.mem _) _ | .xorRmvImmv (.mem _) _
  | .xorRmvImm8 (.mem _) _ => true
  | .notRm8 (.mem _) | .notRmv (.mem _) | .negRm8 (.mem _) | .negRmv (.mem _) => true
  | .xchgRm8R8 (.mem _) _ | .xchgRmvRv (.mem _) _ => true
  | _ => false

/-! ### What a step keeps -/

/-- The registers that no data instruction writes: the system, control and debug registers, CPL, the parameters and the
host's inputs (rule R631). -/
structure State.KeepsSystem (s t : State) : Prop where
  cfg : t.cfg = s.cfg
  gdtr : t.gdtr = s.gdtr
  idtr : t.idtr = s.idtr
  ldtr : t.ldtr = s.ldtr
  taskr : t.taskr = s.taskr
  cr0 : t.cr0 = s.cr0
  cr2 : t.cr2 = s.cr2
  cr3 : t.cr3 = s.cr3
  dr : ∀ d, t.dreg d = s.dreg d
  cpl : t.cpl = s.cpl
  busyPin : t.busyPin = s.busyPin
  errorPin : t.errorPin = s.errorPin
  intrPending : t.intrPending = s.intrPending
  nmiPending : t.nmiPending = s.nmiPending

/-- Every general register but the listed ones keeps its 32 bits. -/
def State.KeepsRegs (s t : State) (but : List Reg) : Prop := ∀ r, r ∉ but → t.regs.get r = s.regs.get r

/-- Every byte of memory but those at the listed addresses reads as before. -/
def State.KeepsBytes (s t : State) (but : List Nat) : Prop := ∀ a, a ∉ but → t.mem.read a = s.mem.read a

/-- The flags other than OF, SF, ZF, AF, PF and CF are unchanged. -/
structure Flags.KeepsControl (f g : Flags) : Prop where
  tf : g.tf = f.tf
  ifl : g.ifl = f.ifl
  df : g.df = f.df
  iopl : g.iopl = f.iopl
  nt : g.nt = f.nt
  rf : g.rf = f.rf
  vm : g.vm = f.vm

/-- The 32-bit register an operand of width `w` that is a register lives in (rule R21). -/
def Place.regs (w : Width) : Place → List Reg
  | .reg r => [match w with | .b8 => (byteHome r).1 | _ => r]
  | .mem _ _ => []

/-- Nothing but the listed registers, the listed bytes and the status flags differs; EIP, the interrupt shadow and the
model's own bookkeeping may. -/
structure State.Frame (s t : State) (regs : List Reg) (bytes : List Nat) : Prop where
  system : s.KeepsSystem t
  segs : t.segs = s.segs
  regs : s.KeepsRegs t regs
  bytes : s.KeepsBytes t bytes
  control : s.flags.KeepsControl t.flags
  ioOut : t.ioOut = s.ioOut

/-! ### Runs -/

/-- A segment register as real-address and virtual 8086 mode form it (rules R74, R660). -/
def Segment.realFormed (g : Segment) : Prop := g.base = g.sel.setWidth 32 <<< 4 ∧ g.limit = 0xFFFF

/-- The well-formedness conditions of a start state (rule R660), with memory in its canonical form. Rule R660 gives no
condition on CPL in real-address mode, where nothing reads it, and none is made here (DESIGN CHOICE, log entry 29):
`Coherent` asks for level 0, and `State.setCreg` enters protected mode at level 0 from any. -/
structure State.WellFormedStart (s : State) : Prop where
  mem : s.mem.wf
  noTrap : s.flags.tf = false
  noBreakpoints : s.dr7.extractLsb' 0 8 = 0
  noPaging : s.pg = false
  noInhibit : s.inhibit = .none
  realSegs : s.mode ≠ .prot → ∀ r, r ≠ .cs → (s.seg r).realFormed
  realCs : s.mode ≠ .prot → (s.seg .cs).realFormed ∨ s.segs.cs = resetCodeSegment
  v86Cpl : s.mode = .v86 → s.cpl = 3
  protCpl : s.mode = .prot → s.cpl = s.segs.ss.rights.dpl ∧ s.cpl = rplOf s.segs.cs.sel

/-- What the rules keep true of a machine that starts so: memory is in its canonical form; real-address mode has level 0
(rule R38); outside protected mode every segment register but CS holds what a load in that mode forms (rules R74, R85);
in protected mode SS is a writable data segment of the current level (rules R83, R406). -/
structure State.Coherent (s : State) : Prop where
  mem : s.mem.wf
  realLevel : s.mode = .real → s.cpl = 0
  realSegs : s.mode ≠ .prot → ∀ r, r ≠ .cs → (s.seg r).realFormed ∧ (s.seg r).rights = realRights
  stack : s.mode = .prot → (s.seg .ss).rights.dpl = s.cpl ∧ (s.seg .ss).rights.writable = true

/-- `k` steps from a state answer a next state: no fault, no refusal. -/
def Safe (k : Nat) (s : State) : Prop := ∃ t, Host.Core.run Sys2Proof.core k s = .next t

end Sys2Proof.Machine
end

