-- ==== Sys2Proof/Certificates/Slice0/Obligations.lean ====
section
/-! DEFINITION. The statements for the provers. Each is one claim about the machine, and its docstring names the rule of
spec/ it formalises. -/

open Sys2Proof Sys2Proof.Machine

/-- Sub_N: the result, borrow, overflow and auxiliary borrow agree with exact integer subtraction. (Rule R9) -/
def Obligations.SubtractionIsExact : Prop :=
  ∀ (w : Width) (a b : Word) (c : Bool), a.toNat < 2 ^ w.bits → b.toNat < 2 ^ w.bits →
    ((subtract w a b c).r.toNat : Int) = ((a.toNat : Int) - b.toNat - c.toNat) % 2 ^ w.bits ∧
      ((subtract w a b c).cf = true ↔ a.toNat < b.toNat + c.toNat) ∧
      ((subtract w a b c).ofl = true ↔ w.signed (subtract w a b c).r ≠ w.signed a - w.signed b - c.toNat) ∧
      ((subtract w a b c).af = true ↔ a.toNat % 16 < b.toNat % 16 + c.toNat)

/-- SetSZP_N and the flags of differences and of logical results: SF, ZF, PF from the result, every other flag as
said. (Rules R9, R262) -/
def Obligations.StatusFlagsOfAResult : Prop :=
  ∀ (s : State) (f : Flags) (w : Width) (a b r : Word) (d : Difference),
    (f.setSZP w r).sf = r.getLsbD (w.bits - 1) ∧
      ((f.setSZP w r).zf = true ↔ r = 0) ∧
      ((f.setSZP w r).pf = true ↔ ((List.range 8).filter (r.getLsbD ·)).length % 2 = 0) ∧
      f.KeepsControl (f.setSZP w r) ∧ (f.setSZP w r).cf = f.cf ∧ (f.setSZP w r).ofl = f.ofl ∧
      (f.setSZP w r).af = f.af ∧
      f.ofDifference w d = { f.setSZP w d.r with cf := d.cf, ofl := d.ofl, af := d.af } ∧
      (∃ af, s.logicFlags w r = (s.setFlags { s.flags.setSZP w r with cf := false, ofl := false, af := af }).drawn) ∧
      orOp w a b s = (a ||| b, s.logicFlags w (a ||| b)) ∧ xorOp w a b s = (a ^^^ b, s.logicFlags w (a ^^^ b)) ∧
      subOp w a b s = ((subtract w a b false).r, s.setFlags (s.flags.ofDifference w (subtract w a b false))) ∧
      sbbOp w a b s =
        ((subtract w a b s.flags.cf).r, s.setFlags (s.flags.ofDifference w (subtract w a b s.flags.cf)))

/-- Cond(tttn): the sixteen conditions, and the odd codes negate the even ones. (Rule R433) -/
def Obligations.ConditionTable : Prop :=
  ∀ f : Flags,
    (f.cond 0x0 = true ↔ f.ofl = true) ∧ (f.cond 0x1 = true ↔ f.ofl = false) ∧
      (f.cond 0x2 = true ↔ f.cf = true) ∧ (f.cond 0x3 = true ↔ f.cf = false) ∧
      (f.cond 0x4 = true ↔ f.zf = true) ∧ (f.cond 0x5 = true ↔ f.zf = false) ∧
      (f.cond 0x6 = true ↔ f.cf = true ∨ f.zf = true) ∧ (f.cond 0x7 = true ↔ ¬(f.cf = true ∨ f.zf = true)) ∧
      (f.cond 0x8 = true ↔ f.sf = true) ∧ (f.cond 0x9 = true ↔ f.sf = false) ∧
      (f.cond 0xA = true ↔ f.pf = true) ∧ (f.cond 0xB = true ↔ f.pf = false) ∧
      (f.cond 0xC = true ↔ f.sf ≠ f.ofl) ∧ (f.cond 0xD = true ↔ f.sf = f.ofl) ∧
      (f.cond 0xE = true ↔ f.sf ≠ f.ofl ∨ f.zf = true) ∧ (f.cond 0xF = true ↔ ¬(f.sf ≠ f.ofl ∨ f.zf = true)) ∧
      ∀ ttt : BitVec 3, f.cond (ttt ++ 1#1) = !f.cond (ttt ++ 0#1)

/-- The rotates and shifts: the loop run COUNT times is the closed form of its rule. (Rules R361, R362, R363, R364,
R365, R366, R367) -/
def Obligations.ShiftAndRotateClosedForms : Prop :=
  ∀ (w : Width) (a : Word) (cf : Bool) (n : Nat), a.toNat < 2 ^ w.bits →
    let x := cf.toNat * 2 ^ w.bits + a.toNat
    let k := n % w.bits
    let j := n % (w.bits + 1)
    let left := (x * 2 ^ j + x / 2 ^ (w.bits + 1 - j)) % 2 ^ (w.bits + 1)
    let right := (x / 2 ^ j + x * 2 ^ (w.bits + 1 - j)) % 2 ^ (w.bits + 1)
    (∀ k : Shift, k.loop w 0 a cf = (a, cf)) ∧
      (Shift.rol.loop w n a cf).1.toNat = (a.toNat * 2 ^ k + a.toNat / 2 ^ (w.bits - k)) % 2 ^ w.bits ∧
      (Shift.ror.loop w n a cf).1.toNat = (a.toNat / 2 ^ k + a.toNat * 2 ^ (w.bits - k)) % 2 ^ w.bits ∧
      (Shift.rcl.loop w n a cf).1.toNat = left % 2 ^ w.bits ∧
      (Shift.rcl.loop w n a cf).2 = decide (left / 2 ^ w.bits = 1) ∧
      (Shift.rcr.loop w n a cf).1.toNat = right % 2 ^ w.bits ∧
      (Shift.rcr.loop w n a cf).2 = decide (right / 2 ^ w.bits = 1) ∧
      (Shift.shl.loop w n a cf).1.toNat = a.toNat * 2 ^ n % 2 ^ w.bits ∧
      (Shift.shr.loop w n a cf).1.toNat = a.toNat / 2 ^ n ∧
      (Shift.sar.loop w n a cf).1.toNat < 2 ^ w.bits ∧
      w.signed (Shift.sar.loop w n a cf).1 = w.signed a / 2 ^ n ∧
      (0 < n →
        (Shift.rol.loop w n a cf).2 = (Shift.rol.loop w n a cf).1.getLsbD 0 ∧
          (Shift.ror.loop w n a cf).2 = (Shift.ror.loop w n a cf).1.getLsbD (w.bits - 1) ∧
          (Shift.shl.loop w n a cf).2 = (decide (n ≤ w.bits) && a.getLsbD (w.bits - n)) ∧
          (Shift.shr.loop w n a cf).2 = a.getLsbD (n - 1) ∧
          (Shift.sar.loop w n a cf).2 = decide (w.signed a / 2 ^ (n - 1) % 2 = 1))

/-- SHLD and SHRD values: the operand shifted, the register's bits entering, CF the last bit shifted out. (Rules
R368, R369) -/
def Obligations.DoubleShiftValues : Prop :=
  ∀ (w : Width) (a b : Word) (n : Nat), w ≠ .b8 → a.toNat < 2 ^ w.bits → b.toNat < 2 ^ w.bits → 1 ≤ n → n < w.bits →
    (shldValue w a b n).1.toNat = a.toNat * 2 ^ n % 2 ^ w.bits + b.toNat / 2 ^ (w.bits - n) ∧
      (shldValue w a b n).2 = a.getLsbD (w.bits - n) ∧
      (shrdValue w a b n).1.toNat = a.toNat / 2 ^ n + b.toNat * 2 ^ (w.bits - n) % 2 ^ w.bits ∧
      (shrdValue w a b n).2 = a.getLsbD (n - 1)

/-- Flags of the shifts and rotates: CF from the loop, OF for count 1, SF ZF PF from a shifted result, the rest
kept. (Rules R370, R371, R372) -/
def Obligations.ShiftFlagRules : Prop :=
  ∀ (k : Shift) (w : Width) (n : Nat) (a : Word) (s : State),
    ∃ f : Flags, shiftOp k w n a s = ((k.loop w n a s.flags.cf).1, (s.setFlags f).drawn) ∧
      s.flags.KeepsControl f ∧ f.cf = (if n = 0 then s.flags.cf else (k.loop w n a s.flags.cf).2) ∧
      (k.isRotate = true → f.sf = s.flags.sf ∧ f.zf = s.flags.zf ∧ f.af = s.flags.af ∧ f.pf = s.flags.pf) ∧
      (k.isRotate = false → n ≠ 0 →
        f.sf = w.msb (k.loop w n a s.flags.cf).1 ∧ (f.zf = true ↔ (k.loop w n a s.flags.cf).1 = 0) ∧
          f.pf = parity8 (k.loop w n a s.flags.cf).1) ∧
      (n = 1 → k ∈ [Shift.rol, .rcl, .shl] → f.ofl = (w.msb (k.loop w n a s.flags.cf).1 ^^ f.cf)) ∧
      (n = 1 → k ∈ [Shift.ror, .rcr] →
        f.ofl = (w.msb (k.loop w n a s.flags.cf).1 ^^ (k.loop w n a s.flags.cf).1.getLsbD (w.bits - 2))) ∧
      (n = 1 → k = .shr → f.ofl = w.msb a) ∧ (n = 1 → k = .sar → f.ofl = false)

/-- Sub-registers: what each 32-, 16- and 8-bit name reads, and that a partial write leaves every other bit. (Rules
R20, R21, R22) -/
def Obligations.RegisterNamesAndPartialWrites : Prop :=
  ∀ (s : State) (r : Reg) (v : Word),
    s.reg .d32 r = s.regs.get r ∧ s.reg .w16 r = ((s.regs.get r).extractLsb' 0 16).setWidth 32 ∧
      (∀ q ∈ ([(.eax, .eax, 0), (.ecx, .ecx, 0), (.edx, .edx, 0), (.ebx, .ebx, 0), (.esp, .eax, 8), (.ebp, .ecx, 8),
          (.esi, .edx, 8), (.edi, .ebx, 8)] : List (Reg × Reg × Nat)),
        s.reg .b8 q.1 = ((s.regs.get q.2.1).extractLsb' q.2.2 8).setWidth 32 ∧
          ∀ x i, i < 32 → ((s.setReg .b8 q.1 v).regs.get x).getLsbD i =
            if x = q.2.1 ∧ q.2.2 ≤ i ∧ i < q.2.2 + 8 then v.getLsbD (i - q.2.2) else (s.regs.get x).getLsbD i) ∧
      (∀ x i, i < 32 → ((s.setReg .w16 r v).regs.get x).getLsbD i =
        if x = r ∧ i < 16 then v.getLsbD i else (s.regs.get x).getLsbD i) ∧
      (∀ x, (s.setReg .d32 r v).regs.get x = if x = r then v else s.regs.get x) ∧
      ∀ w, s.setReg w r v = { s with regs := (s.setReg w r v).regs }

/-- A stored value reads back, its bytes lie least significant first, and every other byte keeps its value. That a
store to ROM completes and changes no byte is the model's reading of the word ROM in R79 (log entry 31,
PRESUMED). (Rules R72, R73) -/
def Obligations.MemoryIsLittleEndian : Prop :=
  ∀ (s : State) (r : SegReg) (off v : Word) (n : Nat), s.mem.wf → 2 ≤ s.cfg.physAddrBits → n ∈ [1, 2, 4] →
    ((∀ a ∈ s.addrs r off n, s.backing a ≠ some .rom) →
      ((s.store r off n v).load r off n).toNat = v.toNat % 2 ^ (8 * n)) ∧
      (∀ i, i < n → (s.store r off n v).mem.read (s.byteAddr r off i) =
        if s.backing (s.byteAddr r off i) = some .rom then s.mem.read (s.byteAddr r off i)
        else v.extractLsb' (8 * i) 8) ∧
      (∀ a, a ∉ s.addrs r off n → (s.store r off n v).mem.read a = s.mem.read a) ∧
      s.store r off n v = { s with mem := (s.store r off n v).mem, stored := (s.store r off n v).stored }

/-- InLimit: an operand is in the limit exactly when every one of its bytes is, in each mode and kind of segment.
(Rules R74, R76) -/
def Obligations.SegmentLimits : Prop :=
  ∀ (s : State) (r : SegReg) (off : Word) (n : Nat), 1 ≤ n →
    (s.mode ≠ .prot → (s.inLimit r off n = true ↔ ∀ i, i < n → off.toNat + i ≤ 0xFFFF)) ∧
      (∀ writable, s.mode = .prot → (s.seg r).rights.kind = .data writable true →
        (s.inLimit r off n = true ↔ ∀ i, i < n → (s.seg r).limit.toNat < off.toNat + i ∧
          off.toNat + i ≤ if (s.seg r).rights.big then 0xFFFFFFFF else 0xFFFF)) ∧
      (s.mode = .prot → (∀ writable, (s.seg r).rights.kind ≠ .data writable true) →
        (s.inLimit r off n = true ↔ ∀ i, i < n → off.toNat + i ≤ (s.seg r).limit.toNat))

/-- The checks of a memory operand: null selector, then rights, then the limit, with the exception each raises; then
the memory map. That the refusal of a byte which the host does not back comes after the faults, that a device
window is refused too, and that the first such byte names the refusal is the model's choice (log entries 20 and
31): R79 does not say. (Rules R72, R75, R86, R601, R602, R79) -/
def Obligations.AccessChecks : Prop :=
  ∀ (s : State) (k : Access) (r : SegReg) (off : Word) (n : Nat),
    (s.mode = .prot → r ≠ .cs → r ≠ .ss → (s.seg r).valid = false →
        s.checkAccess k r off n = .error (.fault (.exception .generalProtection (some 0)))) ∧
      (s.mode = .prot → (r = .cs ∨ r = .ss ∨ (s.seg r).valid = true) → (s.seg r).rights.allows k = false →
        s.checkAccess k r off n = .error (.fault (.exception .generalProtection (some 0)))) ∧
      ((s.mode = .prot → (r = .cs ∨ r = .ss ∨ (s.seg r).valid = true) ∧ (s.seg r).rights.allows k = true) →
        s.inLimit r off n = false →
        s.checkAccess k r off n = .error (.fault (.exception (if r = .ss then .stackFault else .generalProtection)
          (if s.mode = .real then none else some 0)))) ∧
      (s.checkAccess k r off n = .ok () ↔ s.MayAccess k r off n) ∧
      (s.accessFault k r off n = none → ∀ i, i < n →
        (∀ j, j < i → s.backing (s.byteAddr r off j) = some .ram ∨ s.backing (s.byteAddr r off j) = some .rom) →
        (s.backing (s.byteAddr r off i) = none → s.checkAccess k r off n = .error (.refused .unbackedAddress)) ∧
          (s.backing (s.byteAddr r off i) = some .device →
            s.checkAccess k r off n = .error (.refused .deviceWindow))) ∧
      (∀ a rs, s.cfg.memoryMap = .regions rs →
        (s.backing a = none ↔ ∀ g ∈ rs, ¬(g.base ≤ a ∧ a < g.base + g.size))) ∧
      (∀ (ar : Rights) (x y : Bool), (ar.kind = .data x y → ar.allows .read = true ∧ ar.allows .write = x) ∧
        (ar.kind = .code x y → ar.allows .read = x ∧ ar.allows .write = false) ∧
        (ar.kind = .system → ar.allows .read = false ∧ ar.allows .write = false))

/-- Effective addresses: the sums of the addressing tables modulo 2^16 or 2^32, and each form's default segment.
(Rules R130, R131, R132, R133) -/
def Obligations.EffectiveAddresses : Prop :=
  ∀ (s : State) (d8 : BitVec 8) (d16 : BitVec 16) (d32 : BitVec 32) (sc : Scale) (idx : Option Reg) (b : Reg),
    let g := fun r => ((s.regs.get r).toNat : Int)
    let scaled : Int := match idx with
      | none => 0
      | some r => g r * match sc with | .x1 => 1 | .x2 => 2 | .x4 => 4 | .x8 => 8
    (∀ q ∈ ([(.bxsi, g .ebx + g .esi, .ds), (.bxdi, g .ebx + g .edi, .ds), (.bpsi, g .ebp + g .esi, .ss),
        (.bpdi, g .ebp + g .edi, .ss), (.si, g .esi, .ds), (.di, g .edi, .ds), (.bp, g .ebp, .ss),
        (.bx, g .ebx, .ds)] : List (Base16 × Int × SegReg)),
      ((s.effOff (.base16 q.1 .none)).toNat : Int) = q.2.1 % 2 ^ 16 ∧
        ((s.effOff (.base16 q.1 (.d8 d8))).toNat : Int) = (q.2.1 + d8.toInt) % 2 ^ 16 ∧
        ((s.effOff (.base16 q.1 (.d16 d16))).toNat : Int) = (q.2.1 + d16.toNat) % 2 ^ 16 ∧
        ∀ d, defaultSeg (.base16 q.1 d) = q.2.2) ∧
      s.effOff (.direct16 d16) = d16.setWidth 32 ∧ s.effOff (.direct32 d32) = d32 ∧
      defaultSeg (.direct16 d16) = .ds ∧ defaultSeg (.direct32 d32) = .ds ∧
      (∀ q ∈ ([(.none, 0), (.d8 d8, d8.toInt), (.d32 d32, (d32.toNat : Int))] : List (Disp32 × Int)),
        ((s.effOff (.base32 b q.1)).toNat : Int) = (g b + q.2) % 2 ^ 32 ∧
          ((s.effOff (.sib sc idx b q.1)).toNat : Int) = (g b + scaled + q.2) % 2 ^ 32 ∧
          defaultSeg (.base32 b q.1) = (if b = .ebp ∨ b = .esp then .ss else .ds) ∧
          defaultSeg (.sib sc idx b q.1) = (if b = .ebp ∨ b = .esp then .ss else .ds)) ∧
      ((s.effOff (.sibNoBase sc idx d32)).toNat : Int) = (scaled + d32.toNat) % 2 ^ 32 ∧
      defaultSeg (.sibNoBase sc idx d32) = .ds ∧
      ∀ m : Mem, s.place (.mem m) = .mem (match s.ctx.seg with | some x => x | none => defaultSeg m) (s.effOff m)

/-- Push and pop: the stack pointer moves by the item modulo 2^StackAddrSize, SP alone at 16 bits, and a push that
fails. (Rules R37, R320, R321, R330, R22) -/
def Obligations.StackPrimitives : Prop :=
  ∀ (s : State) (n : Nat) (v : Word),
    let bits := if s.mode = .prot ∧ (s.seg .ss).rights.big = true then 32 else 16
    s.stackWidth.bits = bits ∧ (s.sp.toNat = s.regs.esp.toNat % 2 ^ bits) ∧
      ((s.stackDown n).toNat : Int) = ((s.sp.toNat : Int) - n) % 2 ^ bits ∧
      (s.stackUp n).toNat = (s.sp.toNat + n) % 2 ^ bits ∧
      (s.MayPush n n → s.push n v = .ok (s.pushed n v)) ∧
      (((s.seg .ss).rights.writable = false ∨ s.inLimit .ss (s.stackDown n) n = false) →
        s.push n v = .error (.fault
          (if s.mode = .prot then .exception .stackFault (some 0)
            else if s.regs.esp.toNat % 2 ^ 16 ∈ [1, 3, 5] then .shutdown
            else .exception .stackFault (if s.mode = .real then none else some 0)))) ∧
      s.pushed n v =
        (s.store .ss (s.stackDown n) n v).setReg (if bits = 32 then .d32 else .w16) .esp (s.stackDown n) ∧
      s.popped n = s.setReg (if bits = 32 then .d32 else .w16) .esp (s.stackUp n)

/-- ReadDescriptor: the table by TI, the bound of its limit, and the fields of the eight bytes; or the host's
function. The layout of the eight bytes is general knowledge that R81 marks as its own (log entry 10, PRESUMED);
that the host's reader is a function of GDTR, LDTR, memory and selector is the model's choice of form (log entry
7). (Rules R80, R81) -/
def Obligations.DescriptorLookUp : Prop :=
  (∀ b0 b1 b2 b3 b4 b5 b6 b7 : Byte,
    let d := decodeDescriptor (b7 ++ b6 ++ b5 ++ b4 ++ b3 ++ b2 ++ b1 ++ b0)
    let raw := (b6.toNat % 16) * 65536 + b1.toNat * 256 + b0.toNat
    d.base = b7 ++ b4 ++ b3 ++ b2 ∧ d.limit.toNat = (if b6.getLsbD 7 then raw * 4096 + 4095 else raw) ∧
      d.rights.present = b5.getLsbD 7 ∧ d.rights.dpl = b5.extractLsb' 5 2 ∧ d.rights.big = b6.getLsbD 6 ∧
      d.rights.kind = (if b5.getLsbD 4 = false then .system
        else if b5.getLsbD 3 then .code (b5.getLsbD 1) (b5.getLsbD 2) else .data (b5.getLsbD 1) (b5.getLsbD 2))) ∧
  ∀ (s : State) (sel : Half) (base : Word) (limit : Nat),
    (if sel.getLsbD 2 then base = s.ldtr.base ∧ limit = s.ldtr.limit.toNat
      else base = s.gdtr.base ∧ limit = s.gdtr.limit.toNat) →
    (s.cfg.descriptorReader = .host →
        s.readDescriptor sel = .ok (Config.hostDescriptor s.gdtr s.ldtr s.mem sel)) ∧
    (s.cfg.descriptorReader = .standard →
    let at_ := fun i => s.phys (base + BitVec.ofNat 32 (sel.toNat / 8 * 8 + i))
    let byte := fun i => s.mem.read (at_ i)
    (sel.getLsbD 2 = true → s.ldtr.sel.toNat < 4 → s.readDescriptor sel = .ok none) ∧
      ((sel.getLsbD 2 = true → 4 ≤ s.ldtr.sel.toNat) → limit < sel.toNat / 8 * 8 + 7 →
        s.readDescriptor sel = .ok none) ∧
      ((sel.getLsbD 2 = true → 4 ≤ s.ldtr.sel.toNat) → sel.toNat / 8 * 8 + 7 ≤ limit →
        s.Backed ((List.range 8).map at_) →
        s.readDescriptor sel = .ok (some (decodeDescriptor
          (byte 7 ++ byte 6 ++ byte 5 ++ byte 4 ++ byte 3 ++ byte 2 ++ byte 1 ++ byte 0)))))

/-- LoadSS, LoadDataSeg and the load of real-address and virtual 8086 mode: each outcome in the order of its
listing. (Rules R82, R83, R84, R85, R606) -/
def Obligations.SegmentLoadRules : Prop :=
  ∀ (s : State) (r : SegReg) (sel : Half) (d? : Option Descriptor),
    let gp : M State := .error (.fault (.exception .generalProtection (some (sel &&& 0xFFFC))))
    (s.mode ≠ .prot → s.loadSeg r sel = .ok (s.setSeg r
        { sel := sel, valid := true, base := sel.setWidth 32 * 16, limit := 0xFFFF, rights := realRights })) ∧
      (s.mode = .prot → sel.toNat < 4 →
        s.loadSeg .ss sel = .error (.fault (.exception .generalProtection (some 0))) ∧
          (r ≠ .ss → s.loadSeg r sel = .ok (s.setSeg r { s.seg r with sel := sel, valid := false }))) ∧
      (s.mode = .prot → 4 ≤ sel.toNat → s.readDescriptor sel = .ok d? →
        s.loadSeg .ss sel =
            (match d? with
            | none => gp
            | some d =>
              if sel.extractLsb' 0 2 ≠ s.cpl then gp
              else if (∀ down, d.rights.kind ≠ .data true down) then gp
              else if d.rights.dpl ≠ s.cpl then gp
              else if d.rights.present = false then .error (.fault (.exception .stackFault (some (sel &&& 0xFFFC))))
              else .ok (s.setSeg .ss
                { sel := sel, valid := true, base := d.base, limit := d.limit, rights := d.rights })) ∧
          (r ≠ .ss → s.loadSeg r sel =
            match d? with
            | none => gp
            | some d =>
              if (d.rights.kind = .system ∨ ∃ c, d.rights.kind = .code false c) then gp
              else if ¬((∃ x, d.rights.kind = .code x true) ∨
                (sel.toNat % 4 ≤ d.rights.dpl.toNat ∧ s.cpl.toNat ≤ d.rights.dpl.toNat)) then gp
              else if d.rights.present = false then
                .error (.fault (.exception .segmentNotPresent (some (sel &&& 0xFFFC))))
              else .ok (s.setSeg r
                { sel := sel, valid := true, base := d.base, limit := d.limit, rights := d.rights })))

/-- MOV r/m,r, r,r/m, r/m,imm and moffs: the source's value goes to the destination, or the operand check stops it.
(Rules R200, R201, R202, R204, R601, R602) -/
def Obligations.MovGeneralCompletes : Prop :=
  ∀ (s : State) (rm : RM) (r : Reg) (i8 : BitVec 8) (iv off : BitVec 32), s.Unlocked →
    (s.MayWrite .b8 (s.place rm) →
      exec (.movRm8R8 rm r) s = .next ((s.place rm).finish .b8 (s.reg .b8 r, s)) ∧
        exec (.movRm8Imm8 rm i8) s = .next ((s.place rm).finish .b8 (i8.setWidth 32, s))) ∧
      (s.MayWrite s.opWidth (s.place rm) →
        exec (.movRmvRv rm r) s = .next ((s.place rm).finish s.opWidth (s.reg s.opWidth r, s)) ∧
          exec (.movRmvImmv rm iv) s = .next ((s.place rm).finish s.opWidth (iv, s))) ∧
      (s.MayRead .b8 (s.place rm) →
        exec (.movR8Rm8 rm r) s = .next ((Place.reg r).finish .b8 (s.readAt .b8 (s.place rm), s))) ∧
      (s.MayRead s.opWidth (s.place rm) →
        exec (.movRvRmv rm r) s = .next ((Place.reg r).finish s.opWidth (s.readAt s.opWidth (s.place rm), s))) ∧
      (s.MayRead .b8 (.mem (s.segOr .ds) off) → exec (.movAlMoffs off) s =
        .next ((Place.reg .eax).finish .b8 (s.load (s.segOr .ds) off 1, s))) ∧
      (s.MayRead s.opWidth (.mem (s.segOr .ds) off) → exec (.movAxMoffs off) s =
        .next ((Place.reg .eax).finish s.opWidth (s.load (s.segOr .ds) off s.opWidth.bytes, s))) ∧
      (s.MayWrite .b8 (.mem (s.segOr .ds) off) → exec (.movMoffsAl off) s =
        .next ((s.store (s.segOr .ds) off 1 (s.reg .b8 .eax)).retire)) ∧
      (s.MayWrite s.opWidth (.mem (s.segOr .ds) off) → exec (.movMoffsAx off) s =
        .next ((s.store (s.segOr .ds) off s.opWidth.bytes (s.reg s.opWidth .eax)).retire)) ∧
      (∀ q ∈ ([(.movRm8R8 rm r, .b8), (.movRm8Imm8 rm i8, .b8), (.movRmvRv rm r, s.opWidth),
          (.movRmvImmv rm iv, s.opWidth)] : List (Instr × Width)), s.StopsWithCheck q.1 .write q.2 (s.place rm)) ∧
      (∀ q ∈ ([(.movR8Rm8 rm r, .b8), (.movRvRmv rm r, s.opWidth)] : List (Instr × Width)),
        s.StopsWithCheck q.1 .read q.2 (s.place rm)) ∧
      (∀ q ∈ ([(.movAlMoffs off, .b8), (.movAxMoffs off, s.opWidth)] : List (Instr × Width)),
        s.StopsWithCheck q.1 .read q.2 (.mem (s.segOr .ds) off)) ∧
      ∀ q ∈ ([(.movMoffsAl off, .b8), (.movMoffsAx off, s.opWidth)] : List (Instr × Width)),
        s.StopsWithCheck q.1 .write q.2 (.mem (s.segOr .ds) off)

/-- MOV register, immediate: 1011 w reg and N/8 bytes of immediate; the register takes it, no flag changes, no
exception. (Rule R203) -/
def Obligations.MovRegisterImmediate : Prop :=
  ∀ (s : State) (o a : Size) (r : Reg) (i8 : BitVec 8) (i16 : BitVec 16) (i32 : BitVec 32) (rest : List Byte),
    decode o a ((0xB0 + r.code.setWidth 8) :: i8 :: rest) = .ok (.movReg8Imm8 r i8, rest) ∧
      decode .s16 a ((0xB8 + r.code.setWidth 8) :: i16.extractLsb' 0 8 :: i16.extractLsb' 8 8 :: rest) =
        .ok (.movRegvImmv r (i16.setWidth 32), rest) ∧
      decode .s32 a ((0xB8 + r.code.setWidth 8) :: i32.extractLsb' 0 8 :: i32.extractLsb' 8 8 ::
          i32.extractLsb' 16 8 :: i32.extractLsb' 24 8 :: rest) = .ok (.movRegvImmv r i32, rest) ∧
      (s.Unlocked →
        (∃ c, exec (.movReg8Imm8 r i8) s = .next
            { s.setReg .b8 r (i8.setWidth 32) with
              eip := s.eip + BitVec.ofNat 32 s.ctx.len, eipCarry := c,
              inhibit := .none, ctx := {} }) ∧
          ∃ c, exec (.movRegvImmv r i32) s = .next
            { s.setReg s.opWidth r i32 with
              eip := s.eip + BitVec.ofNat 32 s.ctx.len, eipCarry := c,
              inhibit := .none, ctx := {} })

/-- MOVSX and MOVZX: the source's signed or unsigned value, at OpSize, in the register, or the stop of the read
check. (Rules R216, R217, R601, R602) -/
def Obligations.MovExtendCompletes : Prop :=
  ∀ (s : State) (rm : RM) (r : Reg), s.Unlocked →
    (s.MayRead .b8 (s.place rm) →
      (∃ v, v.toNat < 2 ^ s.opWidth.bits ∧ s.opWidth.signed v = Width.b8.signed (s.readAt .b8 (s.place rm)) ∧
        exec (.movsx8 rm r) s = .next ((Place.reg r).finish s.opWidth (v, s))) ∧
        (s.readAt .b8 (s.place rm)).toNat < 2 ^ 8 ∧
        exec (.movzx8 rm r) s = .next ((Place.reg r).finish s.opWidth (s.readAt .b8 (s.place rm), s))) ∧
      (s.MayRead .w16 (s.place rm) →
        (∃ v, v.toNat < 2 ^ s.opWidth.bits ∧ s.opWidth.signed v = Width.w16.signed (s.readAt .w16 (s.place rm)) ∧
          exec (.movsx16 rm r) s = .next ((Place.reg r).finish s.opWidth (v, s))) ∧
          (s.readAt .w16 (s.place rm)).toNat < 2 ^ 16 ∧
          exec (.movzx16 rm r) s = .next ((Place.reg r).finish s.opWidth (s.readAt .w16 (s.place rm), s))) ∧
      ∀ q ∈ ([(.movsx8 rm r, .b8), (.movzx8 rm r, .b8), (.movsx16 rm r, .w16), (.movzx16 rm r, .w16)] :
          List (Instr × Width)), s.StopsWithCheck q.1 .read q.2 (s.place rm)

/-- MOV r/m16,Sreg and SMSW: a word to memory, or the stop of its write check; in a register, at OpSize 32, a free
upper half. (Rules R207, R464, R601, R602) -/
def Obligations.StoreHalfCompletes : Prop :=
  ∀ (s : State) (rm : RM) (sr : SegReg), s.Unlocked →
    ∀ q ∈ ([(.movRm16Sreg rm sr, (s.seg sr).sel), (.smsw rm, s.cr0.extractLsb' 0 16)] : List (Instr × Half)),
      (∀ m, rm = .mem m → s.MayWrite .w16 (s.place rm) →
        exec q.1 s = .next ((s.place rm).finish .w16 (q.2.setWidth 32, s))) ∧
        (∀ r, rm = .reg r → s.opSize = .s16 → exec q.1 s = .next ((Place.reg r).finish .w16 (q.2.setWidth 32, s))) ∧
        (∀ r, rm = .reg r → s.opSize = .s32 →
          ∃ upper : Half, exec q.1 s = .next ((Place.reg r).finish .d32 (upper ++ q.2, s.drawn))) ∧
        s.StopsWithCheck q.1 .write .w16 (s.place rm)

/-- MOV Sreg and POP Sreg complete when the load of the segment register does, and only SS leaves the interrupt
shadow. (Rules R205, R206, R208, R326, R328, R41, R321, R601, R602) -/
def Obligations.SegmentLoadsComplete : Prop :=
  ∀ (s : State), s.Unlocked →
    (∀ rm sr, sr ≠ .cs → s.MayRead .w16 (s.place rm) →
      (∀ t, s.loadSeg sr ((s.readAt .w16 (s.place rm)).extractLsb' 0 16) = .ok t →
        exec (.movSregRm16 rm sr) s = .next (t.retireWith (if sr = .ss then .all else .none))) ∧
        ∀ e, s.loadSeg sr ((s.readAt .w16 (s.place rm)).extractLsb' 0 16) = .error e →
          exec (.movSregRm16 rm sr) s = outcome (.error e)) ∧
      (∀ rm, exec (.movSregRm16 rm .cs) s = .refused (.reservedEncoding .moveToCs)) ∧
      (∀ rm sr, sr ≠ .cs → s.StopsWithCheck (.movSregRm16 rm sr) .read .w16 (s.place rm)) ∧
      ∀ q ∈ ([(.popEs, .es), (.popSs, .ss), (.popDs, .ds), (.popFs, .fs), (.popGs, .gs)] : List (Instr × SegReg)),
        s.StopsWithPop q.1 0 s.opWidth.bytes ∧ (s.MayPop 0 s.opWidth.bytes →
        (∀ t, s.loadSeg q.2 ((s.item 0 s.opWidth.bytes).extractLsb' 0 16) = .ok t →
          exec q.1 s = .next ((t.setReg s.stackWidth .esp (s.stackUp s.opWidth.bytes)).retireWith
            (if q.2 = .ss then .all else .none))) ∧
          ∀ e, s.loadSeg q.2 ((s.item 0 s.opWidth.bytes).extractLsb' 0 16) = .error e →
            exec q.1 s = outcome (.error e))

/-- MOV to and from CR, DR and TR: completes at level 0 or in real-address mode, #GP(0) elsewhere, values refused.
(Rules R209, R210, R211, R212, R213, R214, R215, R630, R36, R38, R39, R661) -/
def Obligations.SpecialMoves : Prop :=
  ∀ (s : State) (c : CReg) (d : DReg) (t : TReg) (r : Reg), s.Unlocked →
    ((s.mode = .v86 ∨ (s.mode = .prot ∧ s.cpl ≠ 0)) →
      ∀ i ∈ ([.movR32Cr c r, .movCrR32 c r, .movR32Dr d r, .movDrR32 d r, .movR32Tr t r, .movTrR32 t r] : List Instr),
        exec i s = .fault (.exception .generalProtection (some 0))) ∧
      (s.Privileged →
        ((s.regs.get r).getLsbD 31 = true → exec (.movCrR32 .cr0 r) s = .refused .paging) ∧
          ((s.regs.get r).getLsbD 31 = false → s.pe = true → (s.regs.get r).getLsbD 0 = false →
            exec (.movCrR32 .cr0 r) s = .refused .leavingProtectedMode) ∧
          ((s.regs.get r).toNat % 2 ^ 12 ≠ 0 → exec (.movCrR32 .cr3 r) s = .refused .cr3LowBits) ∧
          ((s.regs.get r).toNat % 2 ^ 8 ≠ 0 → exec (.movDrR32 .dr7 r) s = .refused .breakpointsEnabled) ∧
          ((∃ f, s.flags.KeepsControl f ∧
           exec (.movR32Cr c r) s = .next (((s.setReg .d32 r (s.creg c)).setFlags f).drawn.retire)) ∧
           (∃ f, s.flags.KeepsControl f ∧
             exec (.movR32Dr d r) s = .next (((s.setReg .d32 r (s.dreg d)).setFlags f).drawn.retire)) ∧
           (∃ f v, s.flags.KeepsControl f ∧
             exec (.movR32Tr t r) s = .next (((s.setReg .d32 r v).setFlags f).drawn.drawn.retire)) ∧
           ((c = .cr0 → (s.regs.get r).getLsbD 31 = false ∧ (s.pe = true → (s.regs.get r).getLsbD 0 = true)) →
             (c = .cr3 → (s.regs.get r).toNat % 2 ^ 12 = 0) →
             ∃ f, s.flags.KeepsControl f ∧
               exec (.movCrR32 c r) s = .next (((s.setCreg c (s.regs.get r)).setFlags f).drawn.retire)) ∧
           (s.setCreg c (s.regs.get r)).creg c = s.regs.get r ∧
           (s.setCreg c (s.regs.get r)).cpl =
             (if c = .cr0 ∧ s.pe = false ∧ (s.regs.get r).getLsbD 0 = true then 0 else s.cpl) ∧
           (s.setCreg c (s.regs.get r)).segs = s.segs ∧
           ((d = .dr7 → (s.regs.get r).toNat % 2 ^ 8 = 0) →
             ∃ f, s.flags.KeepsControl f ∧
               exec (.movDrR32 d r) s = .next (((s.setDreg d (s.regs.get r)).setFlags f).drawn.retire)) ∧
           ∃ f, s.flags.KeepsControl f ∧ exec (.movTrR32 t r) s = .next ((s.setFlags f).drawn.retire)))

/-- MOVS, SCAS, STOS and OUTS without a repeat prefix: once, with index registers stepped by DF, or the stop of a
check. That a byte which the host does not back with memory is refused after the faults, and which byte names
the refusal, is the model's choice (log entries 20 and 31): R79 does not say. (Rules R230, R231, R232, R235,
R302, R601, R602) -/
def Obligations.StringOnceCompletes : Prop :=
  ∀ s : State, s.Unlocked → s.ctx.rep = none →
    (∀ q ∈ ([(.movs8, .b8), (.movsv, s.opWidth)] : List (Instr × Width)),
      s.MayRead q.2 s.stringSrc → s.MayWrite q.2 s.stringDst →
      exec q.1 s = .next
        (((s.writeAt q.2 s.stringDst (s.readAt q.2 s.stringSrc)).advance .esi q.2).advance .edi q.2).retire) ∧
      (∀ q ∈ ([(.scas8, .b8), (.scasv, s.opWidth)] : List (Instr × Width)), s.MayRead q.2 s.stringDst →
        exec q.1 s = .next ((s.setFlags (s.flags.ofDifference q.2
          (subtract q.2 (s.reg q.2 .eax) (s.readAt q.2 s.stringDst) false))).advance .edi q.2).retire) ∧
      (∀ q ∈ ([(.stos8, .b8), (.stosv, s.opWidth)] : List (Instr × Width)), s.MayWrite q.2 s.stringDst →
        exec q.1 s = .next ((s.writeAt q.2 s.stringDst (s.reg q.2 .eax)).advance .edi q.2).retire) ∧
      (∀ q ∈ ([(.outs8, .b8), (.outsv, s.opWidth)] : List (Instr × Width)), s.MayRead q.2 s.stringSrc →
        s.MayOutput s.dx.toNat q.2.bytes → s.dx.toNat + q.2.bytes ≤ 0x10000 →
        exec q.1 s = .next ((s.emit s.dx q.2 (s.readAt q.2 s.stringSrc)).advance .esi q.2).retire) ∧
      (∀ q ∈ ([(.movs8, .b8), (.movsv, s.opWidth)] : List (Instr × Width)),
        s.StopsWithTwo q.1 q.2 s.stringSrc s.stringDst) ∧
      (∀ q ∈ ([(.scas8, .b8), (.scasv, s.opWidth)] : List (Instr × Width)),
        s.StopsWithCheck q.1 .read q.2 s.stringDst) ∧
      (∀ q ∈ ([(.stos8, .b8), (.stosv, s.opWidth)] : List (Instr × Width)),
        s.StopsWithCheck q.1 .write q.2 s.stringDst) ∧
      (∀ q ∈ ([(.outs8, .b8), (.outsv, s.opWidth)] : List (Instr × Width)), s.MayOutput s.dx.toNat q.2.bytes →
        s.StopsWithCheck q.1 .read q.2 s.stringSrc) ∧
      s.stringSrc = .mem (match s.ctx.seg with | some x => x | none => .ds) (s.reg s.addrWidth .esi) ∧
      s.stringDst = .mem .es (s.reg s.addrWidth .edi) ∧
      ∀ r ∈ [Reg.esi, .edi], ∀ w, ∃ v : Word, s.advance r w = s.setReg s.addrWidth r v ∧
        (v.toNat : Int) = ((s.reg s.addrWidth r).toNat + if s.flags.df then -(w.bytes : Int) else w.bytes) %
          2 ^ s.addrWidth.bits

/-- REP, REPE and REPNE: one step is one iteration; it ends at a count of 0 or, for SCAS, when ZF fails the prefix.
(Rules R240, R241, R242, R244) -/
def Obligations.RepeatedStep : Prop :=
  ∀ (s : State) (p : RepPrefix), s.Unlocked → s.ctx.rep = some p →
    (s.count = 0 → ∀ i ∈ ([.movs8, .movsv, .scas8, .scasv, .stos8, .stosv, .outs8, .outsv] : List Instr),
      exec i s = .next s.retire) ∧
      (s.count ≠ 0 →
        ∀ q ∈ ([(.movs8, movsOnce .b8, false), (.movsv, movsOnce s.opWidth, false), (.stos8, stosOnce .b8, false),
            (.stosv, stosOnce s.opWidth, false), (.outs8, outsOnce .b8, false), (.outsv, outsOnce s.opWidth, false),
            (.scas8, scasOnce .b8, true), (.scasv, scasOnce s.opWidth, true)] :
            List (Instr × (State → M State) × Bool)),
          (∀ u, q.2.1 s = .ok u → exec q.1 s = .next
            (if u.countDown.count = 0 ∨ (q.2.2 = true ∧ u.flags.zf = (p == .repne)) then u.countDown.retire
              else u.countDown.again)) ∧
            ∀ e, q.2.1 s = .error e → exec q.1 s = outcome (.error e)) ∧
      s.count = s.reg s.addrWidth .ecx ∧ s.again = { s with ctx := {}, inhibit := .none } ∧
      ∃ v : Word, s.countDown = s.setReg s.addrWidth .ecx v ∧
        (v.toNat : Int) = ((s.count.toNat : Int) - 1) % 2 ^ s.addrWidth.bits

/-- OR, SBB, SUB and XOR in their nine forms: operands in order, result to the destination, flags set, or the
check's stop. (Rules R78, R261, R265, R266, R267, R268, R601, R602) -/
def Obligations.TwoOperandFormsComplete : Prop :=
  ∀ (s : State) (rm : RM) (r : Reg) (i8 : BitVec 8) (iv : BitVec 32),
    (s.LockFits rm → s.MayWrite .b8 (s.place rm) →
      (∀ q ∈ ([(.orRm8R8 rm r, orOp), (.sbbRm8R8 rm r, sbbOp), (.subRm8R8 rm r, subOp), (.xorRm8R8 rm r, xorOp)] :
          List (Instr × Binary)),
        exec q.1 s = .next ((s.place rm).finish .b8 (q.2 .b8 (s.readAt .b8 (s.place rm)) (s.reg .b8 r) s))) ∧
        ∀ q ∈ ([(.orRm8Imm8 rm i8, orOp), (.sbbRm8Imm8 rm i8, sbbOp), (.subRm8Imm8 rm i8, subOp), (.xorRm8Imm8 rm i8, xorOp)] :
            List (Instr × Binary)),
          exec q.1 s = .next ((s.place rm).finish .b8 (q.2 .b8 (s.readAt .b8 (s.place rm)) (i8.setWidth 32) s))) ∧
      (s.LockFits rm → s.MayWrite s.opWidth (s.place rm) →
        (∀ q ∈ ([(.orRmvRv rm r, orOp), (.sbbRmvRv rm r, sbbOp), (.subRmvRv rm r, subOp), (.xorRmvRv rm r, xorOp)] :
            List (Instr × Binary)),
          exec q.1 s = .next ((s.place rm).finish s.opWidth
            (q.2 s.opWidth (s.readAt s.opWidth (s.place rm)) (s.reg s.opWidth r) s))) ∧
          (∀ q ∈ ([(.orRmvImmv rm iv, orOp), (.sbbRmvImmv rm iv, sbbOp), (.subRmvImmv rm iv, subOp), 
            (.xorRmvImmv rm iv, xorOp)] : List (Instr × Binary)),
            exec q.1 s = .next ((s.place rm).finish s.opWidth
              (q.2 s.opWidth (s.readAt s.opWidth (s.place rm)) iv s))) ∧
          ∀ q ∈ ([(.orRmvImm8 rm i8, orOp), (.sbbRmvImm8 rm i8, sbbOp), (.subRmvImm8 rm i8, subOp), 
            (.xorRmvImm8 rm i8, xorOp)] : List (Instr × Binary)),
            exec q.1 s = .next ((s.place rm).finish s.opWidth
              (q.2 s.opWidth (s.readAt s.opWidth (s.place rm)) (s.opWidth.trunc (i8.signExtend 32)) s))) ∧
      (s.Unlocked → s.MayRead .b8 (s.place rm) →
        ∀ q ∈ ([(.orR8Rm8 rm r, orOp), (.sbbR8Rm8 rm r, sbbOp), (.subR8Rm8 rm r, subOp), (.xorR8Rm8 rm r, xorOp)] :
            List (Instr × Binary)),
          exec q.1 s = .next ((Place.reg r).finish .b8 (q.2 .b8 (s.reg .b8 r) (s.readAt .b8 (s.place rm)) s))) ∧
      (s.Unlocked → s.MayRead s.opWidth (s.place rm) →
        ∀ q ∈ ([(.orRvRmv rm r, orOp), (.sbbRvRmv rm r, sbbOp), (.subRvRmv rm r, subOp), (.xorRvRmv rm r, xorOp)] :
            List (Instr × Binary)),
          exec q.1 s = .next ((Place.reg r).finish s.opWidth
            (q.2 s.opWidth (s.reg s.opWidth r) (s.readAt s.opWidth (s.place rm)) s))) ∧
      (s.Unlocked →
        (∀ q ∈ ([(.orAlImm8 i8, orOp), (.sbbAlImm8 i8, sbbOp), (.subAlImm8 i8, subOp), (.xorAlImm8 i8, xorOp)] :
            List (Instr × Binary)),
          exec q.1 s = .next ((Place.reg .eax).finish .b8 (q.2 .b8 (s.reg .b8 .eax) (i8.setWidth 32) s))) ∧
          ∀ q ∈ ([(.orAxImmv iv, orOp), (.sbbAxImmv iv, sbbOp), (.subAxImmv iv, subOp), (.xorAxImmv iv, xorOp)] :
              List (Instr × Binary)),
            exec q.1 s = .next ((Place.reg .eax).finish s.opWidth (q.2 s.opWidth (s.reg s.opWidth .eax) iv s))) ∧
      (s.LockFits rm →
        (∀ i ∈ ([.orRm8R8 rm r, .orRm8Imm8 rm i8, .sbbRm8R8 rm r, .sbbRm8Imm8 rm i8, .subRm8R8 rm r,
            .subRm8Imm8 rm i8, .xorRm8R8 rm r, .xorRm8Imm8 rm i8] : List Instr),
          s.StopsWithCheck i .write .b8 (s.place rm)) ∧
          ∀ i ∈ ([.orRmvRv rm r, .orRmvImmv rm iv, .orRmvImm8 rm i8, .sbbRmvRv rm r, .sbbRmvImmv rm iv,
              .sbbRmvImm8 rm i8, .subRmvRv rm r, .subRmvImmv rm iv, .subRmvImm8 rm i8, .xorRmvRv rm r,
              .xorRmvImmv rm iv, .xorRmvImm8 rm i8] : List Instr),
            s.StopsWithCheck i .write s.opWidth (s.place rm)) ∧
      (s.Unlocked →
        (∀ i ∈ ([.orR8Rm8 rm r, .sbbR8Rm8 rm r, .subR8Rm8 rm r, .xorR8Rm8 rm r] : List Instr),
          s.StopsWithCheck i .read .b8 (s.place rm)) ∧
          ∀ i ∈ ([.orRvRmv rm r, .sbbRvRmv rm r, .subRvRmv rm r, .xorRvRmv rm r] : List Instr),
            s.StopsWithCheck i .read s.opWidth (s.place rm))

/-- NOT and NEG: the bits reversed with no flag changed; the operand subtracted from zero with its flags; or the
check's stop. (Rules R78, R263, R264, R601, R602) -/
def Obligations.NotAndNegComplete : Prop :=
  ∀ (s : State) (rm : RM), s.LockFits rm →
    (∀ q ∈ ([(.notRm8 rm, .b8), (.notRmv rm, s.opWidth)] : List (Instr × Width)), s.MayWrite q.2 (s.place rm) →
       ∃ v : Word, v.toNat + (s.readAt q.2 (s.place rm)).toNat = 2 ^ q.2.bits - 1 ∧
         exec q.1 s = .next ((s.place rm).finish q.2 (v, s))) ∧
      (∀ q ∈ ([(.negRm8 rm, .b8), (.negRmv rm, s.opWidth)] : List (Instr × Width)), s.MayWrite q.2 (s.place rm) →
        ∃ (v : Word) (f : Flags),
          (v.toNat : Int) = (-((s.readAt q.2 (s.place rm)).toNat : Int)) % 2 ^ q.2.bits ∧
            (f.cf = true ↔ s.readAt q.2 (s.place rm) ≠ 0) ∧
            (f.ofl = true ↔ (s.readAt q.2 (s.place rm)).toNat = 2 ^ (q.2.bits - 1)) ∧
            f.sf = v.getLsbD (q.2.bits - 1) ∧ (f.zf = true ↔ v = 0) ∧ f.pf = parity8 v ∧ s.flags.KeepsControl f ∧
            exec q.1 s = .next ((s.place rm).finish q.2 (v, (s.setFlags f).drawn))) ∧
      ∀ q ∈ ([(.notRm8 rm, .b8), (.notRmv rm, s.opWidth), (.negRm8 rm, .b8), (.negRmv rm, s.opWidth)] :
          List (Instr × Width)), s.StopsWithCheck q.1 .write q.2 (s.place rm)

/-- MUL: the 2N-bit product in AX, DX:AX or EDX:EAX; TEST: the flags of the AND and nothing stored; or the read
check's stop. (Rules R260, R269, R262, R601, R602) -/
def Obligations.MulAndTestComplete : Prop :=
  ∀ (s : State) (rm : RM) (r : Reg) (i8 : BitVec 8) (iv : BitVec 32), s.Unlocked →
    (s.MayRead .b8 (s.place rm) →
      ∃ f : Flags, s.flags.KeepsControl f ∧ f.ofl = f.cf ∧
        (f.cf = true ↔ 2 ^ 8 ≤ (s.reg .b8 .eax).toNat * (s.readAt .b8 (s.place rm)).toNat) ∧
        exec (.mulRm8 rm) s = .next (((s.setReg .w16 .eax
          (BitVec.ofNat 32 ((s.reg .b8 .eax).toNat * (s.readAt .b8 (s.place rm)).toNat))).setFlags f).drawn.retire)) ∧
      (s.MayRead s.opWidth (s.place rm) →
        let p := (s.reg s.opWidth .eax).toNat * (s.readAt s.opWidth (s.place rm)).toNat
        ∃ f : Flags, s.flags.KeepsControl f ∧ f.ofl = f.cf ∧ (f.cf = true ↔ 2 ^ s.opWidth.bits ≤ p) ∧
          exec (.mulRmv rm) s = .next ((((s.setReg s.opWidth .edx (BitVec.ofNat 32 (p / 2 ^ s.opWidth.bits))).setReg
            s.opWidth .eax (BitVec.ofNat 32 p)).setFlags f).drawn.retire)) ∧
      (∀ q ∈ ([(.testRm8R8 rm r, .b8, s.place rm, s.reg .b8 r), (.testRmvRv rm r, s.opWidth, s.place rm, s.reg s.opWidth r),
          (.testRm8Imm8 rm i8, .b8, s.place rm, i8.setWidth 32), (.testRmvImmv rm iv, s.opWidth, s.place rm, iv),
          (.testAlImm8 i8, .b8, .reg .eax, i8.setWidth 32), (.testAxImmv iv, s.opWidth, .reg .eax, iv)] :
          List (Instr × Width × Place × Word)),
        s.MayRead q.2.1 q.2.2.1 →
        ∃ f : Flags, f.cf = false ∧ f.ofl = false ∧
          f.sf = (s.readAt q.2.1 q.2.2.1 &&& q.2.2.2).getLsbD (q.2.1.bits - 1) ∧
          (f.zf = true ↔ s.readAt q.2.1 q.2.2.1 &&& q.2.2.2 = 0) ∧
          f.pf = parity8 (s.readAt q.2.1 q.2.2.1 &&& q.2.2.2) ∧ s.flags.KeepsControl f ∧
          exec q.1 s = .next (s.setFlags f).drawn.retire) ∧
      ∀ q ∈ ([(.mulRm8 rm, .b8), (.mulRmv rm, s.opWidth), (.testRm8R8 rm r, .b8), (.testRmvRv rm r, s.opWidth),
          (.testRm8Imm8 rm i8, .b8), (.testRmvImmv rm iv, s.opWidth)] : List (Instr × Width)),
        s.StopsWithCheck q.1 .read q.2 (s.place rm)

/-- OUT completes when its port may be written: the event, and nothing else. (Rules R96, R300, R301) -/
def Obligations.OutCompletes : Prop :=
  ∀ (s : State) (i8 : BitVec 8), s.Unlocked →
    ∀ q ∈ ([(.outImm8Al i8, i8.setWidth 16, .b8), (.outImm8Ax i8, i8.setWidth 16, s.opWidth),
        (.outDxAl, (s.regs.get .edx).extractLsb' 0 16, .b8),
        (.outDxAx, (s.regs.get .edx).extractLsb' 0 16, s.opWidth)] : List (Instr × Half × Width)),
      s.MayOutput q.2.1.toNat q.2.2.bytes → q.2.1.toNat + q.2.2.bytes ≤ 0x10000 →
      exec q.1 s = .next
        ({ s with ioOut := s.ioOut ++ [{ port := q.2.1, width := q.2.2, value := s.reg q.2.2 .eax }] } : State).retire

/-- I/O privilege in every mode: who needs the permission map, and #GP(0) when it denies. (Rule R304) -/
def Obligations.IoPrivilege : Prop :=
  ∀ (s : State) (port n : Nat) (i8 : BitVec 8),
    (s.mode = .real → s.checkIo port n = .ok ()) ∧
      (s.mode = .prot → s.cpl.toNat ≤ s.flags.iopl.toNat → s.checkIo port n = .ok ()) ∧
      ((s.mode = .v86 ∨ (s.mode = .prot ∧ s.flags.iopl.toNat < s.cpl.toNat)) →
        (s.ioPermission port n = .ok true → s.checkIo port n = .ok ()) ∧
          (s.ioPermission port n = .ok false →
            s.checkIo port n = .error (.fault (.exception .generalProtection (some 0))))) ∧
      (s.Unlocked →
        ∀ q ∈ ([(.outImm8Al i8, i8.setWidth 16, .b8), (.outImm8Ax i8, i8.setWidth 16, s.opWidth), (.outDxAl, s.dx, .b8),
            (.outDxAx, s.dx, s.opWidth), (.outs8, s.dx, .b8), (.outsv, s.dx, s.opWidth)] :
            List (Instr × Half × Width)),
          (q.1 ∈ [Instr.outs8, .outsv] → s.ctx.rep ≠ none → s.count ≠ 0) →
          s.checkIo q.2.1.toNat q.2.2.bytes = .error (.fault (.exception .generalProtection (some 0))) →
          exec q.1 s = .fault (.exception .generalProtection (some 0)))

/-- The I/O permission map: n ports may be accessed exactly when each port's bit lies in the TSS and is 0; or the
host's predicate. That a TSS limit below 67H denies is the model's choice (log entry 14, DESIGN CHOICE): R97
speaks of the map byte and says nothing of the word at 66H. The place of that word and the shape of the map are
general knowledge that R97 marks as its own (log entry 15, PRESUMED). That the host's predicate is a function of
TASKR, memory and ports is the model's choice of form (log entry 7). (Rule R97) -/
def Obligations.IoPermissionMap : Prop :=
  ∀ (s : State) (port n : Nat),
    (s.cfg.ioPermission = .host → s.ioPermission port n = .ok (Config.hostIoPermission s.taskr s.mem port n)) ∧
    (s.cfg.ioPermission = .tssMap → s.cfg.memoryMap = .allRam →
    (s.taskr.limit.toNat < 0x67 → s.ioPermission port n = .ok false) ∧
      (0x67 ≤ s.taskr.limit.toNat →
        let byte := fun i => s.mem.read (s.phys (s.taskr.base + BitVec.ofNat 32 i))
        let map := (byte 0x66).toNat + 256 * (byte 0x67).toNat
        s.ioPermission port n = .ok (decide (∀ p ∈ (List.range n).map (port + ·),
          map + p / 8 ≤ s.taskr.limit.toNat ∧ (byte (map + p / 8)).getLsbD (p % 8) = false))))

/-- PUSH of registers, immediates, r/m operands and segment registers: the item stored, or the outcome of the check
that fails. (Rules R320, R324, R330, R331, R332, R333, R334, R601, R602) -/
def Obligations.PushCompletes : Prop :=
  ∀ (s : State) (rm : RM) (r : Reg) (i8 : BitVec 8) (iv : BitVec 32), s.Unlocked →
    (espBased rm = true → exec (.pushRm rm) s = .refused .espOperand) ∧
      (s.MayPush s.opWidth.bytes s.opWidth.bytes →
        (∀ q ∈ ([(.pushReg r, s.reg s.opWidth r), (.pushImmv iv, iv),
            (.pushImm8 i8, s.opWidth.trunc (i8.signExtend 32))] : List (Instr × Word)),
          exec q.1 s = .next (s.pushed s.opWidth.bytes q.2).retire) ∧
          (espBased rm = false → s.MayRead s.opWidth (s.place rm) →
            exec (.pushRm rm) s = .next (s.pushed s.opWidth.bytes (s.readAt s.opWidth (s.place rm))).retire) ∧
          ∀ q ∈ ([(.pushEs, .es), (.pushCs, .cs), (.pushSs, .ss), (.pushDs, .ds), (.pushFs, .fs), (.pushGs, .gs)] :
              List (Instr × SegReg)),
            (s.opSize = .s16 → exec q.1 s = .next (s.pushed 2 ((s.seg q.2).sel.setWidth 32)).retire) ∧
              (s.opSize = .s32 → ∃ upper : Half,
                exec q.1 s = .next (s.drawn.pushed 4 (upper ++ (s.seg q.2).sel)).retire)) ∧
      (∀ i ∈ ([.pushReg r, .pushImmv iv, .pushImm8 i8, .pushEs, .pushCs, .pushSs, .pushDs, .pushFs, .pushGs] :
          List Instr), s.StopsWithPush i s.opWidth.bytes s.opWidth.bytes) ∧
      (espBased rm = false → s.StopsWithCheck (.pushRm rm) .read s.opWidth (s.place rm) ∧
        (s.MayRead s.opWidth (s.place rm) → s.StopsWithPush (.pushRm rm) s.opWidth.bytes s.opWidth.bytes))

/-- PUSH (E)SP, in both encodings, pushes the value of the register as it was before the instruction. (Rule R335) -/
def Obligations.PushOldStackPointer : Prop :=
  ∀ (s : State) (o a : Size) (rest : List Byte),
    decode o a (0x54 :: rest) = .ok (.pushReg .esp, rest) ∧
      decode o a (0xFF :: 0xF4 :: rest) = .ok (.pushRm (.reg .esp), rest) ∧
      (s.Unlocked → s.MayPush s.opWidth.bytes s.opWidth.bytes →
        ∀ i ∈ ([.pushReg .esp, .pushRm (.reg .esp)] : List Instr),
          (s.opSize = .s32 → exec i s = .next (s.pushed 4 s.regs.esp).retire) ∧
            (s.opSize = .s16 → exec i s = .next (s.pushed 2 ((s.regs.esp.extractLsb' 0 16).setWidth 32)).retire))

/-- PUSHA pushes the eight registers, the old pointer fifth; PUSHF the flags at their places; or the outcome of a
push that fails. That a byte which the host does not back with memory is refused after the faults, and which
byte names the refusal, is the model's choice (log entries 20 and 31): R79 does not say. (Rules R336, R338, R26,
R330) -/
def Obligations.PushAllAndFlagsComplete : Prop :=
  ∀ s : State, s.Unlocked →
    ((∀ k, 1 ≤ k → k ≤ 8 → s.MayPush (k * s.opWidth.bytes) s.opWidth.bytes) →
      let n := s.opWidth.bytes
      let v := fun r => s.reg s.opWidth r
      exec .pusha s = .next ((((((((s.pushed n (v .eax)).pushed n (v .ecx)).pushed n (v .edx)).pushed n (v .ebx)).pushed n
        (v .esp)).pushed n (v .ebp)).pushed n (v .esi)).pushed n (v .edi)).retire) ∧
      (s.cfg.rfBit = 16 → s.cfg.vmBit = 17 → (s.mode = .v86 → s.flags.iopl = 3) →
        s.MayPush s.opWidth.bytes s.opWidth.bytes →
        ∃ v : Word, v.getLsbD 0 = s.flags.cf ∧ v.getLsbD 2 = s.flags.pf ∧ v.getLsbD 4 = s.flags.af ∧
          v.getLsbD 6 = s.flags.zf ∧ v.getLsbD 7 = s.flags.sf ∧ v.getLsbD 8 = s.flags.tf ∧
          v.getLsbD 9 = s.flags.ifl ∧ v.getLsbD 10 = s.flags.df ∧ v.getLsbD 11 = s.flags.ofl ∧
          v.extractLsb' 12 2 = s.flags.iopl ∧ v.getLsbD 14 = s.flags.nt ∧ v.getLsbD 16 = s.flags.rf ∧
          v.getLsbD 17 = s.flags.vm ∧ exec .pushf s = .next (s.drawn.pushed s.opWidth.bytes v).retire) ∧
      s.StopsWithPushes .pusha s.opWidth.bytes 8 ∧
      ((s.mode = .v86 → s.flags.iopl = 3) → s.StopsWithPush .pushf s.opWidth.bytes s.opWidth.bytes)

/-- POP into a register other than (E)SP or memory ESP does not address: the item, or the stop of a check; other
forms refused. That a byte which the host does not back with memory is refused after the faults, and which byte
names the refusal, is the model's choice (log entries 20 and 31): R79 does not say. (Rules R321, R322, R323,
R324, R601, R602) -/
def Obligations.PopCompletes : Prop :=
  ∀ (s : State) (r : Reg) (m : Mem), s.Unlocked →
    (∀ i ∈ ([.popReg .esp, .popRm (.reg .esp)] : List Instr), exec i s = .refused .espOperand) ∧
      (espBased (.mem m) = true → exec (.popRm (.mem m)) s = .refused .espOperand) ∧
      (s.MayPop 0 s.opWidth.bytes →
        (r ≠ .esp → ∀ i ∈ ([.popReg r, .popRm (.reg r)] : List Instr), exec i s =
          .next ((Place.reg r).finish s.opWidth (s.item 0 s.opWidth.bytes, s.popped s.opWidth.bytes))) ∧
          (espBased (.mem m) = false → s.MayWrite s.opWidth (s.place (.mem m)) → exec (.popRm (.mem m)) s =
            .next ((s.writeAt s.opWidth (s.place (.mem m)) (s.item 0 s.opWidth.bytes)).popped s.opWidth.bytes).retire)) ∧
      (r ≠ .esp → ∀ i ∈ ([.popReg r, .popRm (.reg r)] : List Instr), s.StopsWithPop i 0 s.opWidth.bytes) ∧
      (espBased (.mem m) = false →
        (s.inLimit .ss (s.stackUp 0) s.opWidth.bytes = false → exec (.popRm (.mem m)) s =
          .fault (.exception .stackFault (if s.mode = .real then none else some 0))) ∧
          (s.inLimit .ss (s.stackUp 0) s.opWidth.bytes = true →
            s.StopsWithTwo (.popRm (.mem m)) s.opWidth (.mem .ss (s.stackUp 0)) (s.place (.mem m))))

/-- POPA loads seven registers, discarding the pointer's item; POPF the flags its privilege allows; or the fault of
a read. That a byte which the host does not back with memory is refused after the faults, and which byte names
the refusal, is the model's choice (log entries 20 and 31): R79 does not say. (Rules R321, R337, R340) -/
def Obligations.PopAllAndFlagsComplete : Prop :=
  ∀ s : State, s.Unlocked →
    ((∀ k, k < 8 → s.MayPop (k * s.opWidth.bytes) s.opWidth.bytes) →
      let w := s.opWidth
      let it := fun k => s.item (k * w.bytes) w.bytes
      exec .popa s = .next ((((((((s.setReg w .edi (it 0)).setReg w .esi (it 1)).setReg w .ebp (it 2)).setReg w .ebx
        (it 4)).setReg w .edx (it 5)).setReg w .ecx (it 6)).setReg w .eax (it 7)).popped (8 * w.bytes)).retire) ∧
      ((s.mode = .v86 → s.flags.iopl = 3) → s.MayPop 0 s.opWidth.bytes →
        let v := s.item 0 s.opWidth.bytes
        exec .popf s = .next (({ s with flags :=
          { cf := v.getLsbD 0, pf := v.getLsbD 2, af := v.getLsbD 4, zf := v.getLsbD 6, sf := v.getLsbD 7,
            tf := v.getLsbD 8, df := v.getLsbD 10, ofl := v.getLsbD 11, nt := v.getLsbD 14,
            ifl := if s.mode = .real ∨ s.cpl.toNat ≤ s.flags.iopl.toNat then v.getLsbD 9 else s.flags.ifl
            iopl := if s.mode = .real ∨ s.cpl = 0 then v.extractLsb' 12 2 else s.flags.iopl
            rf := s.flags.rf, vm := s.flags.vm } } : State).popped s.opWidth.bytes).retire) ∧
      s.StopsWithPops .popa s.opWidth.bytes 8 ∧
      ((s.mode = .v86 → s.flags.iopl = 3) → s.StopsWithPop .popf 0 s.opWidth.bytes)

/-- The rotates and shifts, for every operand and count source, the count masked to five bits; or the write check's
stop. (Rules R78, R360, R601, R602) -/
def Obligations.ShiftFormsComplete : Prop :=
  ∀ (s : State) (rm : RM) (n : Count), s.Unlocked →
    ∀ count : Nat, count = (match n with | .one => 1 | .cl => s.regs.ecx.toNat % 32 | .imm8 i => i.toNat % 32) →
      (s.MayWrite .b8 (s.place rm) →
        ∀ q ∈ ([(.rolRm8 rm n, .rol), (.rorRm8 rm n, .ror), (.rclRm8 rm n, .rcl), (.rcrRm8 rm n, .rcr),
            (.shlRm8 rm n, .shl), (.shrRm8 rm n, .shr), (.sarRm8 rm n, .sar)] :
            List (Instr × Shift)),
          exec q.1 s = .next ((s.place rm).finish .b8 (shiftOp q.2 .b8 count (s.readAt .b8 (s.place rm)) s))) ∧
        (s.MayWrite s.opWidth (s.place rm) →
          ∀ q ∈ ([(.rolRmv rm n, .rol), (.rorRmv rm n, .ror), (.rclRmv rm n, .rcl), (.rcrRmv rm n, .rcr),
              (.shlRmv rm n, .shl), (.shrRmv rm n, .shr), (.sarRmv rm n, .sar)] :
              List (Instr × Shift)),
            exec q.1 s = .next ((s.place rm).finish s.opWidth
              (shiftOp q.2 s.opWidth count (s.readAt s.opWidth (s.place rm)) s))) ∧
        (∀ i ∈ ([.rolRm8 rm n, .rorRm8 rm n, .rclRm8 rm n, .rcrRm8 rm n, .shlRm8 rm n, .shrRm8 rm n, .sarRm8 rm n] : List Instr),
          s.StopsWithCheck i .write .b8 (s.place rm)) ∧
        ∀ i ∈ ([.rolRmv rm n, .rorRmv rm n, .rclRmv rm n, .rcrRmv rm n, .shlRmv rm n, .shrRmv rm n, .sarRmv rm n] : List Instr),
          s.StopsWithCheck i .write s.opWidth (s.place rm)

/-- SHLD and SHRD: nothing for a count of 0, the shifted pair below N, free values from N on; or the write check's
stop. (Rules R78, R368, R369, R601, R602) -/
def Obligations.DoubleShiftsComplete : Prop :=
  ∀ (s : State) (rm : RM) (r : Reg) (i8 : BitVec 8), s.Unlocked →
    ∀ q ∈ ([(.shldImm8 rm r i8, shldValue, i8.toNat % 32), (.shldCl rm r, shldValue, s.regs.ecx.toNat % 32),
        (.shrdImm8 rm r i8, shrdValue, i8.toNat % 32), (.shrdCl rm r, shrdValue, s.regs.ecx.toNat % 32)] :
        List (Instr × (Width → Word → Word → Nat → Word × Bool) × Nat)),
      s.StopsWithCheck q.1 .write s.opWidth (s.place rm) ∧ (s.MayWrite s.opWidth (s.place rm) →
      (q.2.2 = 0 → exec q.1 s = .next s.retire) ∧
        (1 ≤ q.2.2 → q.2.2 < s.opWidth.bits →
          let v := q.2.1 s.opWidth (s.readAt s.opWidth (s.place rm)) (s.reg s.opWidth r) q.2.2
          ∃ f : Flags, f.cf = v.2 ∧ f.sf = s.opWidth.msb v.1 ∧ (f.zf = true ↔ v.1 = 0) ∧ f.pf = parity8 v.1 ∧
            s.flags.KeepsControl f ∧ exec q.1 s = .next ((s.place rm).finish s.opWidth (v.1, (s.setFlags f).drawn))) ∧
        (s.opWidth.bits ≤ q.2.2 →
          ∃ (v : Word) (f : Flags), v.toNat < 2 ^ s.opWidth.bits ∧ s.flags.KeepsControl f ∧
            exec q.1 s = .next ((s.place rm).finish s.opWidth (v, (s.setFlags f).drawn.drawn))))

/-- RET near, and RET far outside protected mode: to the popped offset; the fault of a stack read, or of a target
above the limit. That a byte which the host does not back with memory is refused after the faults, and which
byte names the refusal, is the model's choice (log entries 20 and 31): R79 does not say. (Rules R321, R400,
R401, R402, R403, R404, R408, R409) -/
def Obligations.NearAndRealFarReturnsComplete : Prop :=
  ∀ (s : State) (imm : BitVec 16), s.Unlocked →
    let k := s.opWidth.bytes
    let t := s.item 0 k
    let limit := if s.mode = .prot then s.segs.cs.limit.toNat else 0xFFFF
    let gp : Host.Outcome State Fault Refusal :=
      .fault (.exception .generalProtection (if s.mode = .real then none else some 0))
    (∀ i ∈ ([.retNear, .retNearImm imm] : List Instr), s.StopsWithPop i 0 k) ∧
    (s.mode ≠ .prot → ∀ i ∈ ([.retFar, .retFarImm imm] : List Instr), s.StopsWithPops i k 2) ∧
    (s.MayPop 0 k → ∀ q ∈ ([(.retNear, 0), (.retNearImm imm, imm.toNat)] : List (Instr × Nat)),
      (t.toNat ≤ limit → exec q.1 s = .next ((s.popped (k + q.2)).jumpTo t)) ∧
        (limit < t.toNat → exec q.1 s = gp)) ∧
      (s.mode ≠ .prot → s.MayPop 0 k → s.MayPop k k →
        ∀ q ∈ ([(.retFar, 0), (.retFarImm imm, imm.toNat)] : List (Instr × Nat)),
          (t.toNat ≤ limit → exec q.1 s = .next
            (((s.setSeg .cs (realSegment ((s.item k k).extractLsb' 0 16))).popped (2 * k + q.2)).jumpTo t)) ∧
            (limit < t.toNat → exec q.1 s = gp))

/-- RET far in protected mode to the same level: CS and EIP from the frame, or the fault of the listing's first test
that fails. (Rules R403, R404, R405, R409, R606) -/
def Obligations.FarReturnSameLevelCompletes : Prop :=
  (∀ (s : State) (imm : BitVec 16) (d : Descriptor), s.Unlocked → s.mode = .prot → s.MayPop 0 s.opWidth.bytes →
    s.MayPop s.opWidth.bytes 2 → rplOf s.returnSel = s.cpl → 4 ≤ s.returnSel.toNat →
    s.readDescriptor s.returnSel = .ok (some d) →
    ((∃ x, d.rights.kind = .code x false ∧ d.rights.dpl = s.cpl) ∨
      ∃ x, d.rights.kind = .code x true ∧ d.rights.dpl.toNat ≤ s.cpl.toNat) →
    d.rights.present = true → (s.item 0 s.opWidth.bytes).toNat ≤ d.limit.toNat →
    ∀ q ∈ ([(.retFar, 0), (.retFarImm imm, imm.toNat)] : List (Instr × Nat)),
      exec q.1 s = .next (((s.setSeg .cs (segmentOf s.returnSel d)).popped (2 * s.opWidth.bytes + q.2)).jumpTo
        (s.item 0 s.opWidth.bytes))) ∧
  ∀ (s : State) (imm : BitVec 16) (d? : Option Descriptor), s.Unlocked → s.mode = .prot →
    let k := s.opWidth.bytes
    let sel := s.returnSel
    ∀ i ∈ ([.retFar, .retFarImm imm] : List Instr),
      (s.inLimit .ss (s.stackUp k) 2 = false → exec i s = .fault (.exception .stackFault (some 0))) ∧
        (s.MayPop k 2 → sel.toNat % 4 < s.cpl.toNat →
          exec i s = .fault (.exception .generalProtection (some (sel &&& 0xFFFC)))) ∧
        (s.MayPop k 2 → sel.toNat % 4 = s.cpl.toNat →
          (sel.toNat < 4 → exec i s = .fault (.exception .generalProtection (some 0))) ∧
            (4 ≤ sel.toNat → s.readDescriptor sel = .ok d? →
              (∀ f, returnCodeFault sel s.cpl d? = some f → exec i s = .fault f) ∧
                ∀ d, d? = some d → returnCodeFault sel s.cpl d? = none →
                  (s.inLimit .ss (s.stackUp 0) k = false → exec i s = .fault (.exception .stackFault (some 0))) ∧
                    (s.MayPop 0 k → d.limit.toNat < (s.item 0 k).toNat →
                      exec i s = .fault (.exception .generalProtection (some 0)))))

/-- RET far in protected mode to an outer level: CS, SS, the pointer and CPL from the frame, then R407; or the
listing's fault. (Rules R87, R404, R406, R407, R409, R606) -/
def Obligations.FarReturnOuterLevelCompletes : Prop :=
  (∀ (s : State) (imm : BitVec 16) (d e : Descriptor) (u : State), s.Unlocked → s.mode = .prot →
    s.cpl.toNat < (rplOf s.returnSel).toNat → 4 ≤ s.returnSel.toNat →
    s.readDescriptor s.returnSel = .ok (some d) →
    ((∃ x, d.rights.kind = .code x false ∧ d.rights.dpl = rplOf s.returnSel) ∨
      ∃ x, d.rights.kind = .code x true ∧ d.rights.dpl.toNat ≤ (rplOf s.returnSel).toNat) →
    d.rights.present = true → (s.item 0 s.opWidth.bytes).toNat ≤ d.limit.toNat →
    ∀ q ∈ ([(.retFar, 0), (.retFarImm imm, imm.toNat)] : List (Instr × Nat)),
      let k := s.opWidth.bytes
      let ssel := (s.item (3 * k + q.2) k).extractLsb' 0 16
      let level := rplOf s.returnSel
      s.inLimit .ss (s.stackUp 0) (4 * k + q.2) = true → s.MayPop k 2 → s.MayPop 0 k → s.MayPop (2 * k + q.2) k →
      s.MayPop (3 * k + q.2) k → 4 ≤ ssel.toNat → s.readDescriptor ssel = .ok (some e) → rplOf ssel = level →
      e.rights.writable = true → e.rights.dpl = level → e.rights.present = true →
      (({ (s.setSeg .cs (segmentOf s.returnSel d)).setSeg .ss (segmentOf ssel e) with cpl := level } : State).setReg
        s.opWidth .esp (s.item (2 * k + q.2) k)).dropSegs = .ok u →
      exec q.1 s = .next (u.jumpTo (s.item 0 k))) ∧
  (∀ s t : State, s.dropSegs = .ok t →
    ∃ a b c, s.dropSeg .es = .ok a ∧ a.dropSeg .fs = .ok b ∧ b.dropSeg .gs = .ok c ∧ c.dropSeg .ds = .ok t) ∧
  (∀ (s : State) (r : SegReg) (d? : Option Descriptor),
    ((s.seg r).valid = false → s.dropSeg r = .ok s) ∧
      ((s.seg r).valid = true → s.readDescriptor (s.seg r).sel = .ok d? →
        s.dropSeg r = .ok (if ∃ d, d? = some d ∧ d.rights.readable = true ∧
            ((∃ x, d.rights.kind = .code x true) ∨
              ((s.seg r).sel.toNat % 4 ≤ d.rights.dpl.toNat ∧ s.cpl.toNat ≤ d.rights.dpl.toNat)) then s
          else s.setSeg r { s.seg r with sel := 0, valid := false }))) ∧
  ∀ (s : State) (imm : BitVec 16) (d? e? : Option Descriptor), s.Unlocked → s.mode = .prot →
    s.MayPop s.opWidth.bytes 2 → s.cpl.toNat < (rplOf s.returnSel).toNat →
    ∀ q ∈ ([(.retFar, 0), (.retFarImm imm, imm.toNat)] : List (Instr × Nat)),
      let k := s.opWidth.bytes
      let sel := s.returnSel
      let level := rplOf s.returnSel
      let ssel := (s.item (3 * k + q.2) k).extractLsb' 0 16
      (s.inLimit .ss (s.stackUp 0) (4 * k + q.2) = false → exec q.1 s = .fault (.exception .stackFault (some 0))) ∧
        (s.inLimit .ss (s.stackUp 0) (4 * k + q.2) = true →
          (sel.toNat < 4 → exec q.1 s = .fault (.exception .generalProtection (some 0))) ∧
            (4 ≤ sel.toNat → s.readDescriptor sel = .ok d? →
              (∀ f, returnCodeFault sel level d? = some f → exec q.1 s = .fault f) ∧
                ∀ d, d? = some d → returnCodeFault sel level d? = none → s.MayPop (2 * k + q.2) k →
                  s.MayPop (3 * k + q.2) k →
                  (ssel.toNat < 4 → exec q.1 s = .fault (.exception .generalProtection (some 0))) ∧
                    (4 ≤ ssel.toNat → s.readDescriptor ssel = .ok e? →
                      (∀ f, returnStackFault ssel level e? = some f → exec q.1 s = .fault f) ∧
                        (returnStackFault ssel level e? = none → s.MayPop 0 k → d.limit.toNat < (s.item 0 k).toNat →
                          exec q.1 s = .fault (.exception .generalProtection (some 0))))))

/-- Jcc: not taken at the next instruction, taken at next + displacement if the code limit holds it; refused if the
host says. (Rules R519, R138, R404, R480) -/
def Obligations.ConditionalJumpsComplete : Prop :=
  ∀ (s : State) (rel : Rel), s.Unlocked →
    (s.cfg.acceptGkBranches = false →
      ∀ i ∈ ([.jo rel, .jno rel, .jb rel, .jnb rel, .jz rel, .jnz rel, .jbe rel, .jnbe rel, .js rel, .jns rel,
          .jp rel, .jnp rel, .jl rel, .jnl rel, .jle rel, .jnle rel] :
          List Instr), exec i s = .refused .branchesDisabled) ∧
    (s.cfg.acceptGkBranches = true →
    let dist : Int := match rel, s.opSize with
      | .short d, _ => d.toInt
      | .near d, .s16 => (d.extractLsb' 0 16).toInt
      | .near d, .s32 => d.toInt
    let limit := if s.mode = .prot then s.segs.cs.limit.toNat else 0xFFFF
    ∃ t : Word, (t.toNat : Int) = ((s.eip.toNat : Int) + s.ctx.len + dist) % (match s.opSize with | .s16 => 2 ^ 16 | .s32 => 2 ^ 32) ∧
      ∀ q ∈ ([(.jo rel, 0x0), (.jno rel, 0x1), (.jb rel, 0x2), (.jnb rel, 0x3), (.jz rel, 0x4), (.jnz rel, 0x5),
          (.jbe rel, 0x6), (.jnbe rel, 0x7), (.js rel, 0x8), (.jns rel, 0x9), (.jp rel, 0xA), (.jnp rel, 0xB),
          (.jl rel, 0xC), (.jnl rel, 0xD), (.jle rel, 0xE), (.jnle rel, 0xF)] :
          List (Instr × BitVec 4)),
        (s.flags.cond q.2 = false → exec q.1 s = .next s.retire) ∧
          (s.flags.cond q.2 = true → t.toNat ≤ limit → exec q.1 s = .next (s.jumpTo t)) ∧
          (s.flags.cond q.2 = true → limit < t.toNat →
            exec q.1 s = .fault (.exception .generalProtection (if s.mode = .real then none else some 0))))

/-- JCXZ, LOOP, LOOPE, LOOPNE and JMP relative, the LOOPs with the count register decremented; refused if the host
says. (Rules R520, R521, R532, R404, R480) -/
def Obligations.CountedAndPlainJumpsComplete : Prop :=
  ∀ (s : State) (rel : BitVec 8) (relv : BitVec 32), s.Unlocked →
    (s.cfg.acceptGkBranches = false →
      ∀ i ∈ ([.jcxz rel, .loop rel, .loope rel, .loopne rel, .jmpRel8 rel, .jmpRel relv] : List Instr),
        exec i s = .refused .branchesDisabled) ∧
    (s.cfg.acceptGkBranches = true →
    let limit := if s.mode = .prot then s.segs.cs.limit.toNat else 0xFFFF
    let zf := s.flags.zf
    let more := s.countDown.count ≠ 0
    ∀ q ∈ ([(.jcxz rel, rel.toInt, decide (s.count = 0), s), (.loop rel, rel.toInt, decide more, s.countDown),
        (.loope rel, rel.toInt, decide (more ∧ zf = true), s.countDown),
        (.loopne rel, rel.toInt, decide (more ∧ zf = false), s.countDown), (.jmpRel8 rel, rel.toInt, true, s),
        (.jmpRel relv, (match s.opSize with | .s16 => (relv.extractLsb' 0 16).toInt | .s32 => relv.toInt), true, s)] :
        List (Instr × Int × Bool × State)),
      ∃ t : Word, (t.toNat : Int) = ((s.eip.toNat : Int) + s.ctx.len + q.2.1) % (match s.opSize with | .s16 => 2 ^ 16 | .s32 => 2 ^ 32) ∧
        (q.2.2.1 = false → exec q.1 s = .next q.2.2.2.retire) ∧
        (q.2.2.1 = true → t.toNat ≤ limit → exec q.1 s = .next (q.2.2.2.jumpTo t)) ∧
        (q.2.2.1 = true → limit < t.toNat →
          exec q.1 s = .fault (.exception .generalProtection (if s.mode = .real then none else some 0))))

/-- SAHF, STC and STD: their encodings, the flags they load or set, and nothing else in any mode. (Rules R431, R440,
R441) -/
def Obligations.FlagInstructions : Prop :=
  ∀ (s : State) (o a : Size) (rest : List Byte),
    decode o a (0x9E :: rest) = .ok (.sahf, rest) ∧ decode o a (0xF9 :: rest) = .ok (.stc, rest) ∧
      decode o a (0xFD :: rest) = .ok (.std, rest) ∧
      (s.Unlocked →
        (∃ c, exec .sahf s = .next { s with
            eip := s.eip + BitVec.ofNat 32 s.ctx.len, eipCarry := c,
            inhibit := .none, ctx := {},
            flags := { s.flags with sf := s.regs.eax.getLsbD 15, zf := s.regs.eax.getLsbD 14,
                                    af := s.regs.eax.getLsbD 12, pf := s.regs.eax.getLsbD 10,
                                    cf := s.regs.eax.getLsbD 8 } }) ∧
          (∃ c, exec .stc s = .next { s with
            eip := s.eip + BitVec.ofNat 32 s.ctx.len, eipCarry := c,
            inhibit := .none, ctx := {}, flags := { s.flags with cf := true } }) ∧
          ∃ c, exec .std s = .next { s with
            eip := s.eip + BitVec.ofNat 32 s.ctx.len, eipCarry := c,
            inhibit := .none, ctx := {}, flags := { s.flags with df := true } })

/-- NOP, CLC, CLD, CMC, CLI, STI and WAIT complete with their one effect, STI with its shadow when IF was 0. The
clause that WAIT with BUSY# active answers a next state equal to the old one is the model's reading of the
outcome Hold of R11 (log entry 9, DEDUCED). The order TS, BUSY#, ERROR# is the spec's own choice, as R446 says
(decision D16). (Rules R430, R498, R499, R502, R500, R442, R446, R41, R11) -/
def Obligations.PlainFlagChangesComplete : Prop :=
  ∀ s : State, s.Unlocked →
    exec .nop s = .next s.retire ∧ exec .clc s = .next (s.setFlags { s.flags with cf := false }).retire ∧
      exec .cld s = .next (s.setFlags { s.flags with df := false }).retire ∧
      exec .cmc s = .next (s.setFlags { s.flags with cf := !s.flags.cf }).retire ∧
      ((s.mode = .prot → s.cpl.toNat ≤ s.flags.iopl.toNat) →
        (s.mode = .v86 → s.cfg.v86StiFaults = true → s.flags.iopl = 3) →
        exec .cli s = .next (s.setFlags { s.flags with ifl := false }).retire ∧
          exec .sti s = .next ((s.setFlags { s.flags with ifl := true }).retireWith
            (if s.flags.ifl then .none else .maskable))) ∧
      (s.cr0.getLsbD 3 = true → exec .wait s = .fault (.exception .coprocessorNotAvailable none)) ∧
      (s.cr0.getLsbD 3 = false → s.cfg.has387 = true → s.busyPin = true →
        exec .wait s = .next { s with ctx := {} }) ∧
      (s.cr0.getLsbD 3 = false → s.cfg.has387 = true → s.busyPin = false → s.errorPin = true →
        exec .wait s = .fault (.exception .coprocessorError none)) ∧
      (s.cr0.getLsbD 3 = false → (s.cfg.has387 = true → s.busyPin = false ∧ s.errorPin = false) →
        exec .wait s = .next s.retire)

/-- #GP(0) for STI and CLI above IOPL, and for PUSHF and POPF in virtual 8086 mode with IOPL below 3. (Rules R338,
R340, R442, R500, R601) -/
def Obligations.FlagAccessFaults : Prop :=
  ∀ s : State, s.Unlocked →
    (∀ i ∈ [Instr.sti, .cli],
      (s.mode = .prot → s.flags.iopl.toNat < s.cpl.toNat →
        exec i s = .fault (.exception .generalProtection (some 0))) ∧
        (s.mode = .v86 → s.cfg.v86StiFaults = true → s.flags.iopl ≠ 3 →
          exec i s = .fault (.exception .generalProtection (some 0)))) ∧
      ∀ i ∈ [Instr.pushf, .popf], s.mode = .v86 → s.flags.iopl ≠ 3 →
        exec i s = .fault (.exception .generalProtection (some 0))

/-- XCHG, XLAT and SETcc: both operands exchanged, AL from the table, 1 or 0 by the condition; or the stop of the
check. (Rules R432, R448, R449, R450, R601, R602) -/
def Obligations.ExchangeTranslateAndSetComplete : Prop :=
  ∀ (s : State) (rm : RM) (r : Reg),
    (s.LockFits rm →
      ∀ q ∈ ([(.xchgRm8R8 rm r, .b8), (.xchgRmvRv rm r, s.opWidth)] : List (Instr × Width)),
        s.MayWrite q.2 (s.place rm) →
        exec q.1 s = .next ((s.writeAt q.2 (s.place rm) (s.reg q.2 r)).setReg q.2 r (s.readAt q.2 (s.place rm))).retire) ∧
      (s.Unlocked → exec (.xchgAxReg r) s = .next
        ((s.setReg s.opWidth .eax (s.reg s.opWidth r)).setReg s.opWidth r (s.reg s.opWidth .eax)).retire) ∧
      (s.Unlocked → ∀ off : Word,
        off.toNat = (s.regs.ebx.toNat + s.regs.eax.toNat % 2 ^ 8) % 2 ^ s.addrWidth.bits →
        s.MayRead .b8 (.mem (s.segOr .ds) off) →
        exec .xlat s = .next ((Place.reg .eax).finish .b8 (s.load (s.segOr .ds) off 1, s))) ∧
      (s.Unlocked → s.MayWrite .b8 (s.place rm) →
        ∀ q ∈ ([(.seto rm, 0x0), (.setno rm, 0x1), (.setb rm, 0x2), (.setnb rm, 0x3), (.setz rm, 0x4),
          (.setnz rm, 0x5), (.setbe rm, 0x6), (.setnbe rm, 0x7), (.sets rm, 0x8), (.setns rm, 0x9),
          (.setp rm, 0xA), (.setnp rm, 0xB), (.setl rm, 0xC), (.setnl rm, 0xD), (.setle rm, 0xE),
          (.setnle rm, 0xF)] :
          List (Instr × BitVec 4)),
          exec q.1 s = .next ((s.place rm).finish .b8 (if s.flags.cond q.2 then 1 else 0, s))) ∧
      (s.LockFits rm → ∀ q ∈ ([(.xchgRm8R8 rm r, .b8), (.xchgRmvRv rm r, s.opWidth)] : List (Instr × Width)),
        s.StopsWithCheck q.1 .write q.2 (s.place rm)) ∧
      (s.Unlocked → ∀ off : Word,
        off.toNat = (s.regs.ebx.toNat + s.regs.eax.toNat % 2 ^ 8) % 2 ^ s.addrWidth.bits →
        s.StopsWithCheck .xlat .read .b8 (.mem (s.segOr .ds) off)) ∧
      (s.Unlocked →
        ∀ i ∈ ([.seto rm, .setno rm, .setb rm, .setnb rm, .setz rm, .setnz rm, .setbe rm, .setnbe rm, .sets rm,
          .setns rm, .setp rm, .setnp rm, .setl rm, .setnl rm, .setle rm, .setnle rm] :
          List Instr), s.StopsWithCheck i .write .b8 (s.place rm))

/-- SGDT and SIDT: LIMIT, then BASE at off + 2 modulo 2^AddrSize, its top byte free with OpSize 16; #UD; or the
check's stop. (Rules R460, R461, R462, R601, R602) -/
def Obligations.TableStoresComplete : Prop :=
  ∀ (s : State) (rm : RM), s.Unlocked →
    ∀ q ∈ ([(.sgdt rm, s.gdtr), (.sidt rm, s.idtr)] : List (Instr × TableReg)),
      (∀ r, rm = .reg r → exec q.1 s = .fault (.exception .invalidOpcode none)) ∧
        ∀ g off next, s.place rm = .mem g off → next.toNat = (off.toNat + 2) % 2 ^ s.addrWidth.bits →
          (∀ f, s.accessFault .write g off 6 = some f → exec q.1 s = .fault f) ∧
            (s.accessFault .write g off 6 = none →
              s.StopsWithCheck q.1 .write .w16 (.mem g off) ∧
                (s.MayAccess .write g off 2 → s.StopsWithCheck q.1 .write .d32 (.mem g next)) ∧
                (s.MayAccess .write g off 2 → s.MayAccess .write g next 4 →
                  ∃ top : Byte, (s.opSize = .s32 → top = q.2.base.extractLsb' 24 8) ∧
                    exec q.1 s = .next ((s.drawn.store g off 2 (q.2.limit.setWidth 32)).store g next 4
                      (top ++ q.2.base.extractLsb' 0 24)).retire))

/-- SLDT, STR, VERR and VERW in protected mode at any level, or the stop of the check; group 6 raises #UD in the
other modes. (Rules R463, R465, R466, R467, R468, R147, R601, R602) -/
def Obligations.SelectorInstructionsComplete : Prop :=
  ∀ (s : State) (rm : RM) (r : Reg), s.Unlocked →
    (s.mode ≠ .prot → ∀ i ∈ ([.sldt rm, .str rm, .verr rm, .verw rm, .lldt rm, .ltr rm, .lar rm r, .lsl rm r, .arpl rm r] :
        List Instr), exec i s = .fault (.exception .invalidOpcode none)) ∧
      (s.mode = .prot → s.MayWrite .w16 (s.place rm) →
        exec (.sldt rm) s = .next ((s.place rm).finish .w16 (s.ldtr.sel.setWidth 32, s)) ∧
          exec (.str rm) s = .next ((s.place rm).finish .w16 (s.taskr.sel.setWidth 32, s))) ∧
      (s.mode = .prot → s.StopsWithCheck (.sldt rm) .write .w16 (s.place rm) ∧
        s.StopsWithCheck (.str rm) .write .w16 (s.place rm) ∧ s.StopsWithCheck (.verr rm) .read .w16 (s.place rm) ∧
        s.StopsWithCheck (.verw rm) .read .w16 (s.place rm)) ∧
      (s.mode = .prot → s.MayRead .w16 (s.place rm) →
        let sel := (s.readAt .w16 (s.place rm)).extractLsb' 0 16
        let may := fun (d : Descriptor) => (∃ x, d.rights.kind = .code x true) ∨
          (sel.toNat % 4 ≤ d.rights.dpl.toNat ∧ s.cpl.toNat ≤ d.rights.dpl.toNat)
        (sel.toNat < 4 → ∀ i ∈ ([.verr rm, .verw rm] : List Instr),
          exec i s = .next (s.setFlags { s.flags with zf := false }).retire) ∧
          ∀ d?, 4 ≤ sel.toNat → s.readDescriptor sel = .ok d? →
            (∃ z : Bool, (z = true ↔ ∃ d, d? = some d ∧ may d ∧
                ((∃ x y, d.rights.kind = .data x y) ∨ ∃ y, d.rights.kind = .code true y)) ∧
              exec (.verr rm) s = .next (s.setFlags { s.flags with zf := z }).retire) ∧
              ∃ z : Bool, (z = true ↔ ∃ d, d? = some d ∧ may d ∧ ∃ y, d.rights.kind = .data true y) ∧
                exec (.verw rm) s = .next (s.setFlags { s.flags with zf := z }).retire)

/-- A prefix byte sets its attribute for the instruction it precedes; a second prefix of its group is refused. The
record of prefixes and of the length between bytes is the model's own (log entry 8). (Rules R113, R114, R115,
R116, R118, R119, R120) -/
def Obligations.PrefixBytesComplete : Prop :=
  ∀ s : State,
    (∀ q ∈ ([(.segEs, .es), (.segCs, .cs), (.segSs, .ss), (.segDs, .ds), (.segFs, .fs), (.segGs, .gs)] :
        List (Instr × SegReg)),
      (s.ctx.seg = none →
        exec q.1 s = .next { s with ctx := { s.ctx with seg := some q.2, len := s.ctx.len + 1 } }) ∧
        (s.ctx.seg ≠ none → exec q.1 s = .refused .duplicatePrefix)) ∧
      (s.ctx.opsz = false → ∃ t, t = { s with ctx := { s.ctx with opsz := true, len := s.ctx.len + 1 } } ∧
        exec .opsize s = .next t ∧ t.opSize ≠ s.opSize ∧ t.addrSize = s.addrSize ∧ t.stackWidth = s.stackWidth) ∧
      (s.ctx.opsz = true → exec .opsize s = .refused .duplicatePrefix) ∧
      (s.ctx.adsz = false → ∃ t, t = { s with ctx := { s.ctx with adsz := true, len := s.ctx.len + 1 } } ∧
        exec .addrsize s = .next t ∧ t.addrSize ≠ s.addrSize ∧ t.opSize = s.opSize ∧ t.stackWidth = s.stackWidth) ∧
      (s.ctx.adsz = true → exec .addrsize s = .refused .duplicatePrefix) ∧
      (s.ctx.rep = none → s.ctx.lock = false →
        exec .lock s = .next { s with ctx := { s.ctx with lock := true, len := s.ctx.len + 1 } } ∧
          exec .repne s = .next { s with ctx := { s.ctx with rep := some .repne, len := s.ctx.len + 1 } } ∧
          exec .rep s = .next { s with ctx := { s.ctx with rep := some .repe, len := s.ctx.len + 1 } }) ∧
      ((s.ctx.rep ≠ none ∨ s.ctx.lock = true) →
        ∀ i ∈ [Instr.lock, .repne, .rep], exec i s = .refused .duplicatePrefix)

/-- Every instruction the spec gives an encoding and no semantics stops under its own mnemonic, as R480 (c) says.
(Rules R4, R480, R147) -/
def Obligations.EncodingOnlyInstructionsStop : Prop :=
  ∀ (s : State) (rm : RM) (m : Mem) (r : Reg) (i8 : BitVec 8) (sel : BitVec 16) (iv : BitVec 32) (low ext : BitVec 3),
    s.Unlocked →
    (∀ q ∈ ([(.addRm8R8 rm r, "ADD"), (.addRmvRv rm r, "ADD"), (.addR8Rm8 rm r, "ADD"), (.addRvRmv rm r, "ADD"),
        (.addAlImm8 i8, "ADD"), (.addAxImmv iv, "ADD"), (.addRm8Imm8 rm i8, "ADD"), (.addRmvImmv rm iv, "ADD"),
        (.addRmvImm8 rm i8, "ADD"), (.adcRm8R8 rm r, "ADC"), (.adcRmvRv rm r, "ADC"), (.adcR8Rm8 rm r, "ADC"),
        (.adcRvRmv rm r, "ADC"), (.adcAlImm8 i8, "ADC"), (.adcAxImmv iv, "ADC"), (.adcRm8Imm8 rm i8, "ADC"),
        (.adcRmvImmv rm iv, "ADC"), (.adcRmvImm8 rm i8, "ADC"), (.andRm8R8 rm r, "AND"),
        (.andRmvRv rm r, "AND"), (.andR8Rm8 rm r, "AND"), (.andRvRmv rm r, "AND"), (.andAlImm8 i8, "AND"),
        (.andAxImmv iv, "AND"), (.andRm8Imm8 rm i8, "AND"), (.andRmvImmv rm iv, "AND"),
        (.andRmvImm8 rm i8, "AND"), (.cmpRm8R8 rm r, "CMP"), (.cmpRmvRv rm r, "CMP"), (.cmpR8Rm8 rm r, "CMP"),
        (.cmpRvRmv rm r, "CMP"), (.cmpAlImm8 i8, "CMP"), (.cmpAxImmv iv, "CMP"), (.cmpRm8Imm8 rm i8, "CMP"),
        (.cmpRmvImmv rm iv, "CMP"), (.cmpRmvImm8 rm i8, "CMP"), (.incReg r, "INC"), (.decReg r, "DEC"),
        (.bound m r, "BOUND"), (.imulRvRmvImmv rm r iv, "IMUL"), (.imulRvRmvImm8 rm r i8, "IMUL"),
        (.lea m r, "LEA"), (.callPtr iv sel, "CALL"), (.les m r, "LES"), (.lds m r, "LDS"),
        (.enter sel i8, "ENTER"), (.intImm8 i8, "INT"), (.esc low ext rm, "ESC"), (.inAlImm8 i8, "IN"),
        (.inAxImm8 i8, "IN"), (.callRel iv, "CALL"), (.jmpPtr iv sel, "JMP"), (.imulRm8 rm, "IMUL"),
        (.divRm8 rm, "DIV"), (.idivRm8 rm, "IDIV"), (.imulRmv rm, "IMUL"), (.divRmv rm, "DIV"),
        (.idivRmv rm, "IDIV"), (.incRm8 rm, "INC"), (.decRm8 rm, "DEC"), (.incRmv rm, "INC"),
        (.decRmv rm, "DEC"), (.callRmv rm, "CALL"), (.callMem m, "CALL"), (.jmpRmv rm, "JMP"),
        (.jmpMem m, "JMP"), (.lgdt m, "LGDT"), (.lidt m, "LIDT"), (.lmsw rm, "LMSW"), (.btRmvRv rm r, "BT"),
        (.btsRmvRv rm r, "BTS"), (.imulRvRmv rm r, "IMUL"), (.lss m r, "LSS"), (.btrRmvRv rm r, "BTR"),
        (.lfs m r, "LFS"), (.lgs m r, "LGS"), (.btRmvImm8 rm i8, "BT"), (.btsRmvImm8 rm i8, "BTS"),
        (.btrRmvImm8 rm i8, "BTR"), (.btcRmvImm8 rm i8, "BTC"), (.btcRmvRv rm r, "BTC"), (.bsf rm r, "BSF"),
        (.bsr rm r, "BSR"), (.daa, "DAA"), (.das, "DAS"), (.aaa, "AAA"), (.aas, "AAS"), (.aam, "AAM"),
        (.aad, "AAD"), (.ins8, "INS"), (.insv, "INS"), (.cbw, "CBW"), (.cwd, "CWD"), (.lahf, "LAHF"),
        (.cmps8, "CMPS"), (.cmpsv, "CMPS"), (.lods8, "LODS"), (.lodsv, "LODS"), (.leave, "LEAVE"),
        (.int3, "INT"), (.into, "INTO"), (.iret, "IRET"), (.inAlDx, "IN"), (.inAxDx, "IN"), (.hlt, "HLT"),
        (.clts, "CLTS")] :
        List (Instr × String)),
      exec q.1 s = .refused (.noSemantics q.2)) ∧
      (s.mode = .prot →
        ∀ q ∈ ([(.arpl rm r, "ARPL"), (.lldt rm, "LLDT"), (.ltr rm, "LTR"), (.lar rm r, "LAR"), (.lsl rm r, "LSL")] :
            List (Instr × String)),
          exec q.1 s = .refused (.noSemantics q.2))

/-- A LOCK prefix before any instruction that does not accept it is refused, for every instruction. (Rules R92,
R270, R115) -/
def Obligations.LockIsRefusedElsewhere : Prop :=
  ∀ (i : Instr) (s : State), s.ctx.lock = true → isPrefix i = false → acceptsLock i = false →
    exec i s = .refused .lockNotAccepted

/-- Frames: an r/m destination form changes that operand only, a register form its registers only, besides the
flags. (Rules R22, R72, R200, R261, R370, R460) -/
def Obligations.FrameOfOperandForms : Prop :=
  ∀ (s t : State) (rm : RM) (r : Reg) (sr : SegReg) (c : CReg) (d : DReg) (tr : TReg) (n : Count) (i8 : BitVec 8)
      (iv : BitVec 32),
    (∀ q ∈ ([(.orRm8R8 rm r, .b8), (.orRm8Imm8 rm i8, .b8), (.orRmvRv rm r, s.opWidth),
        (.orRmvImmv rm iv, s.opWidth), (.orRmvImm8 rm i8, s.opWidth), (.sbbRm8R8 rm r, .b8),
        (.sbbRm8Imm8 rm i8, .b8), (.sbbRmvRv rm r, s.opWidth), (.sbbRmvImmv rm iv, s.opWidth),
        (.sbbRmvImm8 rm i8, s.opWidth), (.subRm8R8 rm r, .b8), (.subRm8Imm8 rm i8, .b8),
        (.subRmvRv rm r, s.opWidth), (.subRmvImmv rm iv, s.opWidth), (.subRmvImm8 rm i8, s.opWidth),
        (.xorRm8R8 rm r, .b8), (.xorRm8Imm8 rm i8, .b8), (.xorRmvRv rm r, s.opWidth),
        (.xorRmvImmv rm iv, s.opWidth), (.xorRmvImm8 rm i8, s.opWidth), (.notRm8 rm, .b8),
        (.notRmv rm, s.opWidth), (.negRm8 rm, .b8), (.negRmv rm, s.opWidth), (.rolRm8 rm n, .b8),
        (.rolRmv rm n, s.opWidth), (.rorRm8 rm n, .b8), (.rorRmv rm n, s.opWidth), (.rclRm8 rm n, .b8),
        (.rclRmv rm n, s.opWidth), (.rcrRm8 rm n, .b8), (.rcrRmv rm n, s.opWidth), (.shlRm8 rm n, .b8),
        (.shlRmv rm n, s.opWidth), (.shrRm8 rm n, .b8), (.shrRmv rm n, s.opWidth), (.sarRm8 rm n, .b8),
        (.sarRmv rm n, s.opWidth), (.shldImm8 rm r i8, s.opWidth), (.shldCl rm r, s.opWidth),
        (.shrdImm8 rm r i8, s.opWidth), (.shrdCl rm r, s.opWidth), (.movRm8R8 rm r, .b8),
        (.movRm8Imm8 rm i8, .b8), (.movRmvRv rm r, s.opWidth), (.movRmvImmv rm iv, s.opWidth),
        (.movRm16Sreg rm sr, .w16), (.smsw rm, .w16), (.sldt rm, .w16), (.str rm, .w16), (.seto rm, .b8),
        (.setno rm, .b8), (.setb rm, .b8), (.setnb rm, .b8), (.setz rm, .b8), (.setnz rm, .b8),
        (.setbe rm, .b8), (.setnbe rm, .b8), (.sets rm, .b8), (.setns rm, .b8), (.setp rm, .b8),
        (.setnp rm, .b8), (.setl rm, .b8), (.setnl rm, .b8), (.setle rm, .b8), (.setnle rm, .b8)] :
        List (Instr × Width)),
      exec q.1 s = .next t → s.Frame t ((s.place rm).regs q.2) (s.placeAddrs q.2 (s.place rm))) ∧
      (∀ q ∈ ([(.xchgRm8R8 rm r, .b8), (.xchgRmvRv rm r, s.opWidth)] : List (Instr × Width)), exec q.1 s = .next t →
        s.Frame t ((s.place rm).regs q.2 ++ (Place.reg r).regs q.2) (s.placeAddrs q.2 (s.place rm))) ∧
      (∀ q ∈ ([(.movMoffsAl iv, .b8), (.movMoffsAx iv, s.opWidth)] : List (Instr × Width)), exec q.1 s = .next t →
        s.Frame t [] (s.addrs (s.segOr .ds) iv q.2.bytes)) ∧
      (∀ i ∈ ([.sgdt rm, .sidt rm] : List Instr), exec i s = .next t →
        s.Frame t [] (match s.place rm with
          | .reg _ => []
          | .mem g off => s.addrs g off 2 ++ s.addrs g (s.tableBaseOff off) 4)) ∧
      ∀ q ∈ ([(.orR8Rm8 rm r, [(byteHome r).1]), (.orRvRmv rm r, [r]), (.orAlImm8 i8, [.eax]),
          (.orAxImmv iv, [.eax]), (.sbbR8Rm8 rm r, [(byteHome r).1]), (.sbbRvRmv rm r, [r]),
          (.sbbAlImm8 i8, [.eax]), (.sbbAxImmv iv, [.eax]), (.subR8Rm8 rm r, [(byteHome r).1]),
          (.subRvRmv rm r, [r]), (.subAlImm8 i8, [.eax]), (.subAxImmv iv, [.eax]),
          (.xorR8Rm8 rm r, [(byteHome r).1]), (.xorRvRmv rm r, [r]), (.xorAlImm8 i8, [.eax]),
          (.xorAxImmv iv, [.eax]), (.movR8Rm8 rm r, [(byteHome r).1]), (.movReg8Imm8 r i8, [(byteHome r).1]),
          (.movRvRmv rm r, [r]), (.movRegvImmv r iv, [r]), (.movsx8 rm r, [r]), (.movsx16 rm r, [r]),
          (.movzx8 rm r, [r]), (.movzx16 rm r, [r]), (.movAlMoffs iv, [.eax]), (.movAxMoffs iv, [.eax]),
          (.xlat, [.eax]), (.mulRm8 rm, [.eax]), (.mulRmv rm, [.eax, .edx]), (.xchgAxReg r, [.eax, r]),
          (.movR32Cr c r, [r]), (.movR32Dr d r, [r]), (.movR32Tr tr r, [r]), (.movTrR32 tr r, []),
          (.testRm8R8 rm r, []), (.testRmvRv rm r, []), (.testRm8Imm8 rm i8, []), (.testRmvImmv rm iv, []),
          (.testAlImm8 i8, []), (.testAxImmv iv, []), (.verr rm, []), (.verw rm, []), (.nop, []), (.sahf, []),
          (.clc, []), (.stc, []), (.cmc, []), (.wait, [])] :
          List (Instr × List Reg)),
        exec q.1 s = .next t → s.Frame t q.2 []

/-- Frames: what PUSH, POP, RET, segment loads, jumps and the moves to special registers leave unchanged. That MOV
Sreg, POP Sreg and RET far leave all memory as it was rests on log entry 10 (PRESUMED): as R81 and decision D14
say, the model does not write the accessed bit, which the hardware sets. (44_stack.md: R320, R321, R326, R336,
R337, R340; 46_control.md: R402, R405, R407; 49_encoding_only.md: R499, R500, R519, R532; 20_memory.md: R81;
40_mov.md: R205, R211, R213; 47_flags_misc.md: R441, R442; 10_state.md: R25) -/
def Obligations.FrameOfStackAndControlForms : Prop :=
  ∀ (s t : State) (rm : RM) (m : Mem) (r : Reg) (sr : SegReg) (c : CReg) (d : DReg) (rel : Rel) (i8 : BitVec 8)
      (imm : BitVec 16) (iv : BitVec 32),
    let k := s.opWidth.bytes
    (∀ i ∈ ([.pushReg r, .pushRm rm, .pushImmv iv, .pushImm8 i8, .pushEs, .pushCs, .pushSs, .pushDs, .pushFs,
        .pushGs, .pushf] :
        List Instr), exec i s = .next t → s.Frame t [.esp] (s.addrs .ss (s.stackDown k) k)) ∧
      (exec .pusha s = .next t →
        s.Frame t [.esp] ((List.range 8).flatMap fun j => s.addrs .ss (s.stackDown ((j + 1) * k)) k)) ∧
      (∀ i ∈ ([.popReg r, .popRm (.reg r)] : List Instr), exec i s = .next t → s.Frame t [r, .esp] []) ∧
      (exec (.popRm (.mem m)) s = .next t → s.Frame t [.esp] (s.placeAddrs s.opWidth (s.place (.mem m)))) ∧
      (exec .popa s = .next t → s.Frame t [.edi, .esi, .ebp, .ebx, .edx, .ecx, .eax, .esp] []) ∧
      (exec .popf s = .next t → ({ s with flags := t.flags } : State).Frame t [.esp] []) ∧
      (∀ q ∈ ([(.popEs, .es), (.popSs, .ss), (.popDs, .ds), (.popFs, .fs), (.popGs, .gs)] : List (Instr × SegReg)),
        exec q.1 s = .next t → (s.setSeg q.2 (t.seg q.2)).Frame t [.esp] [] ∧ t.flags = s.flags) ∧
      (exec (.movSregRm16 rm sr) s = .next t → (s.setSeg sr (t.seg sr)).Frame t [] [] ∧ t.flags = s.flags) ∧
      (∀ i ∈ ([.retNear, .retNearImm imm] : List Instr), exec i s = .next t → s.Frame t [.esp] [] ∧ t.flags = s.flags) ∧
      (∀ i ∈ ([.retFar, .retFarImm imm] : List Instr), exec i s = .next t →
        ({ s with segs := t.segs, cpl := t.cpl } : State).Frame t [.esp] [] ∧ t.flags = s.flags ∧
          (t.cpl = s.cpl → ∀ x, x ≠ .cs → t.seg x = s.seg x)) ∧
      (∀ i ∈ ([.jo rel, .jno rel, .jb rel, .jnb rel, .jz rel, .jnz rel, .jbe rel, .jnbe rel, .js rel, .jns rel,
          .jp rel, .jnp rel, .jl rel, .jnl rel, .jle rel, .jnle rel,
          .jcxz i8, .jmpRel8 i8, .jmpRel iv] : List Instr),
        exec i s = .next t → s.Frame t [] [] ∧ t.flags = s.flags) ∧
      (∀ i ∈ ([.loop i8, .loope i8, .loopne i8] : List Instr),
        exec i s = .next t → s.Frame t [.ecx] [] ∧ t.flags = s.flags) ∧
      (exec (.movCrR32 c r) s = .next t → (s.setCreg c (t.creg c)).Frame t [] []) ∧
      (exec (.movDrR32 d r) s = .next t → (s.setDreg d (t.dreg d)).Frame t [] []) ∧
      (∀ i ∈ ([.sti, .cli] : List Instr), exec i s = .next t →
        ({ s with flags := { s.flags with ifl := t.flags.ifl } } : State).Frame t [] []) ∧
      ∀ i ∈ ([.cld, .std] : List Instr), exec i s = .next t →
        ({ s with flags := { s.flags with df := t.flags.df } } : State).Frame t [] []

/-- Frames: a step of a string instruction changes its index registers, the count if repeated, and its element only.
(Rules R230, R231, R232, R240, R302, R300, R96) -/
def Obligations.FrameOfStringAndOutputForms : Prop :=
  ∀ (s t : State) (i8 : BitVec 8),
    let cx : List Reg := match s.ctx.rep with
      | some _ => [.ecx]
      | none => []
    (∀ q ∈ ([(.movs8, .b8), (.movsv, s.opWidth)] : List (Instr × Width)), exec q.1 s = .next t →
      s.Frame t ([.esi, .edi] ++ cx) (s.placeAddrs q.2 s.stringDst) ∧ t.flags = s.flags) ∧
      (∀ q ∈ ([(.stos8, .b8), (.stosv, s.opWidth)] : List (Instr × Width)), exec q.1 s = .next t →
        s.Frame t ([.edi] ++ cx) (s.placeAddrs q.2 s.stringDst) ∧ t.flags = s.flags) ∧
      (∀ i ∈ [Instr.scas8, .scasv], exec i s = .next t → s.Frame t ([.edi] ++ cx) []) ∧
      (∀ i ∈ [Instr.outs8, .outsv], exec i s = .next t →
        ({ s with ioOut := t.ioOut } : State).Frame t ([.esi] ++ cx) [] ∧ t.flags = s.flags ∧
          (t.ioOut = s.ioOut ∨ ∃ e, t.ioOut = s.ioOut ++ [e])) ∧
      ∀ i ∈ [Instr.outImm8Al i8, .outImm8Ax i8, .outDxAl, .outDxAx], exec i s = .next t →
        ({ s with ioOut := t.ioOut } : State).Frame t [] [] ∧ t.flags = s.flags ∧ ∃ e, t.ioOut = s.ioOut ++ [e]

/-- Flags: the listed instructions change none; a rotate CF and OF only; VERR and VERW ZF only. (40_mov.md: R201,
R202, R203, R204, R207, R216, R217; 42_arith_logic.md: R264; 44_stack.md: R322, R323, R331, R332, R333, R334,
R335, R336, R337, R338; 47_flags_misc.md: R430, R432, R446, R448, R449, R450; 48_system.md: R460, R461, R462,
R463, R464, R465; 45_shift_rotate.md: R370; 48_system.md: R466, R467) -/
def Obligations.FlagsKept : Prop :=
  ∀ (s t : State) (rm : RM) (r : Reg) (sr : SegReg) (n : Count) (i8 : BitVec 8) (iv : BitVec 32),
    (∀ i ∈ ([.movRm8R8 rm r, .movRm8Imm8 rm i8, .movRmvRv rm r, .movRmvImmv rm iv, .movR8Rm8 rm r, .movRvRmv rm r,
        .movReg8Imm8 r i8, .movRegvImmv r iv, .movAlMoffs iv, .movAxMoffs iv, .movMoffsAl iv, .movMoffsAx iv,
        .movRm16Sreg rm sr, .movsx8 rm r, .movsx16 rm r, .movzx8 rm r, .movzx16 rm r, .notRm8 rm, .notRmv rm,
        .xchgRm8R8 rm r, .xchgRmvRv rm r, .xchgAxReg r, .xlat, .nop, .wait, .seto rm, .setno rm, .setb rm,
        .setnb rm, .setz rm, .setnz rm, .setbe rm, .setnbe rm, .sets rm, .setns rm, .setp rm, .setnp rm,
        .setl rm, .setnl rm, .setle rm, .setnle rm, .pushReg r, .pushRm rm, .pushImmv iv, .pushImm8 i8, .pushEs,
        .pushCs, .pushSs, .pushDs, .pushFs, .pushGs, .pushf, .pusha, .popReg r, .popRm rm, .popa, .sgdt rm,
        .sidt rm, .sldt rm, .str rm, .smsw rm] :
        List Instr), exec i s = .next t → t.flags = s.flags) ∧
      (∀ i ∈ ([.rolRm8 rm n, .rolRmv rm n, .rorRm8 rm n, .rorRmv rm n, .rclRm8 rm n, .rclRmv rm n, .rcrRm8 rm n,
          .rcrRmv rm n] :
          List Instr), exec i s = .next t → t.flags = { s.flags with cf := t.flags.cf, ofl := t.flags.ofl }) ∧
      ∀ i ∈ ([.verr rm, .verw rm] : List Instr), exec i s = .next t →
        t.flags = { s.flags with zf := t.flags.zf }

/-- Decode and encode agree: every well-formed instruction decodes from its own bytes, and the bytes after it
remain. (Rules R110, R111, R121, R122, R130, R132, R133, R134, R136, R138) -/
def Obligations.DecodeEncode : Prop :=
  ∀ (o a : Size) (i : Instr) (rest : List Byte), i.wf o a = true → decode o a (encode o a i ++ rest) = .ok (i, rest)

/-- Every step keeps the machine coherent: memory canonical, segment registers and level as the mode requires.
(Rules R38, R74, R83, R85, R406, R620) -/
def Obligations.StepKeepsCoherent : Prop :=
  ∀ s t : State, s.Coherent → step s = .next t → t.Coherent

/-- The machine is coherent at reset. Of the rights in SS, DS, ES, FS and GS, which Coherent demands, R47 says only
that the segments are writable data: DPL 0, present, expand-up and B = 0 are the model's choice, taken from R74
(log entry 1, DEDUCED). (Rules R47, R74) -/
def Obligations.ResetIsCoherent : Prop :=
  State.reset.Coherent

/-- Over one step of any instruction: which control state can change, at which privilege, and in which direction.
(Rules R631, R38, R35, R36, R39, R211, R340, R406, R630, R661) -/
def Obligations.StepKeepsControlState : Prop :=
  ∀ s t : State, step s = .next t →
    t.cfg = s.cfg ∧ t.gdtr = s.gdtr ∧ t.idtr = s.idtr ∧ t.ldtr = s.ldtr ∧ t.taskr = s.taskr ∧
      t.busyPin = s.busyPin ∧ t.errorPin = s.errorPin ∧ t.intrPending = s.intrPending ∧
      t.nmiPending = s.nmiPending ∧ t.flags.vm = s.flags.vm ∧ t.flags.rf = s.flags.rf ∧
      (s.pe = true → s.cpl.toNat ≤ t.cpl.toNat) ∧ (s.pe = false → t.cpl = if t.pe then 0 else s.cpl) ∧
      (s.pe = true → t.pe = true) ∧ t.pg = false ∧
      t.dr7.extractLsb' 0 8 = 0 ∧ (s.cr3.extractLsb' 0 12 = 0 → t.cr3.extractLsb' 0 12 = 0) ∧
      ((∃ c, t.creg c ≠ s.creg c) ∨ (∃ d, t.dreg d ≠ s.dreg d) → s.Privileged) ∧
      (t.flags.iopl ≠ s.flags.iopl → s.mode = .real ∨ s.cpl = 0) ∧
      (t.flags.ifl ≠ s.flags.ifl → s.mode = .prot → s.cpl.toNat ≤ s.flags.iopl.toNat) ∧
      (t.ioOut = s.ioOut ∨ ∃ e, t.ioOut = s.ioOut ++ [e])

/-- A step runs the instruction the bytes at CS:EIP decode to, after its prefixes; no wrap at 2^32; an interrupt
that may be taken. Two clauses are the model's and no rule's: the refusal interruptDelivery of an interrupt that
may be taken (log entry 17, DEDUCED: R616 leaves delivery out of the spec and R620 says only when it may come),
and the carry out of EIP after which the next fetch faults (log entry 11, DEDUCED from decision D21: R25 forms
the sum without wrap). That TF, PG and breakpoints are looked at before the interrupt is the model's order (log
entry 30, DESIGN CHOICE). (Rules R112, R404, R149, R24) -/
def Obligations.StepRunsTheDecodedInstruction : Prop :=
  (∀ (s u : State) (ps : List (Byte × Instr)) (b : Byte) (bs : List Byte), s.unsteppable = none →
      s.fresh.window.1 = ps.map (·.1) ++ b :: bs → (∀ p ∈ ps, decodePrefix p.1 = some p.2) → decodePrefix b = none →
      ps.foldl (fun (t? : Option State) p => t?.bind fun t => match exec p.2 t with | .next v => some v | _ => none)
        (some s.fresh) = some u →
      (∀ i rest, decode u.opSize u.addrSize (b :: bs) = .ok (i, rest) →
        step s = exec i { u with ctx := { u.ctx with len := u.ctx.len + ((b :: bs).length - rest.length) } }) ∧
        ∀ why, decode u.opSize u.addrSize (b :: bs) = .error (.rejected why) →
          step s = .refused (.reservedEncoding why)) ∧
  (∀ (s : State) (k : Nat), k < s.cfg.maxInstructionLength → (∀ j, j ≤ k → s.fetchStop j = none) →
    s.window.1[k]? = some (s.mem.read (s.phys (s.segs.cs.base + (s.eip + BitVec.ofNat 32 k))))) ∧
  (∀ (s : State) (k : Nat), (if s.mode = .prot then s.segs.cs.limit.toNat else 0xFFFF) < s.eip.toNat + k →
    s.fetchStop k = some (.fault (.exception .generalProtection (if s.mode = .real then none else some 0)))) ∧
  (∀ (s : State) (i : Inhibit), 2 ^ 32 ≤ s.eip.toNat + s.ctx.len → (s.retireWith i).unsteppable = none →
    0 < s.cfg.maxInstructionLength →
    step (s.retireWith i) = .fault (.exception .generalProtection (if s.mode = .real then none else some 0))) ∧
  ∀ s : State, s.flags.tf = false → s.pg = false → s.dr7.extractLsb' 0 8 = 0 →
    ((s.nmiPending = true ∧ s.inhibit ≠ .all) ∨
      (s.intrPending = true ∧ s.flags.ifl = true ∧ s.inhibit = .none)) →
    step s = .refused .interruptDelivery

/-- Words written out from the encoding tables decode to the instructions they stand for, in every family. (Rules
R140, R141, R142, R122, R126, R130, R131, R132, R134, R136) -/
def Obligations.DecodeOfWrittenWords : Prop :=
  decode .s16 .s16 [0x8B, 0x46, 0xFE] = .ok (.movRvRmv (.mem (.base16 .bp (.d8 0xFE))) .eax, []) ∧
    decode .s32 .s32 [0x89, 0x54, 0x8E, 0x10] =
      .ok (.movRmvRv (.mem (.sib .x4 (some .ecx) .esi (.d8 0x10))) .edx, []) ∧
    decode .s16 .s16 [0x8E, 0xD8] = .ok (.movSregRm16 (.reg .eax) .ds, []) ∧
    decode .s16 .s16 [0x0F, 0x22, 0xC3] = .ok (.movCrR32 .cr0 .ebx, []) ∧
    decode .s16 .s16 [0xA4] = .ok (.movs8, []) ∧
    decode .s16 .s16 [0x83, 0xE8, 0xFF] = .ok (.subRmvImm8 (.reg .eax) 0xFF, []) ∧
    decode .s16 .s16 [0xF6, 0x25] = .ok (.mulRm8 (.mem (.base16 .di .none)), []) ∧
    decode .s16 .s16 [0xE6, 0x80] = .ok (.outImm8Al 0x80, []) ∧
    decode .s32 .s32 [0x68, 0x78, 0x56, 0x34, 0x12] = .ok (.pushImmv 0x12345678, []) ∧
    decode .s16 .s16 [0xC1, 0x1E, 0x34, 0x12, 0x05] = .ok (.rcrRmv (.mem (.direct16 0x1234)) (.imm8 5), []) ∧
    decode .s16 .s16 [0xC2, 0x04, 0x00] = .ok (.retNearImm 4, []) ∧
    decode .s16 .s16 [0x0F, 0x84, 0x00, 0x01] = .ok (.jz (.near 0x100), []) ∧
    decode .s16 .s16 [0x87, 0xD9] = .ok (.xchgRmvRv (.reg .ecx) .ebx, []) ∧
    decode .s32 .s32 [0x0F, 0x01, 0x05, 0x00, 0x10, 0x00, 0x00] = .ok (.sgdt (.mem (.direct32 0x1000)), [])

/-- Reset: the values of the reset table, real-address mode, and 16-bit sizes. The table of R47 is the defaults the
spec itself recommends; what it leaves unspecified (log entry 1) is not stated here. (Rules R47, R41, R45) -/
def Obligations.ResetValues : Prop :=
  State.reset.mode = .real ∧ State.reset.defaultSize = .s16 ∧ State.reset.eip = 0xFFF0 ∧
    (let cs := State.reset.segs.cs;
      cs.sel = 0xF000 ∧ cs.base = 0xFFFF0000 ∧ cs.limit = 0xFFFF ∧ cs.valid = true ∧
        ∃ conforming, cs.rights.kind = .code true conforming) ∧
    (∀ r, r ≠ .cs → (State.reset.seg r).sel = 0 ∧ (State.reset.seg r).base = 0 ∧ (State.reset.seg r).limit = 0xFFFF ∧
      (State.reset.seg r).valid = true ∧ (State.reset.seg r).rights.writable = true) ∧
    State.reset.flags = ⟨false, false, false, false, false, false, false, false, false, 0, false, false, false⟩ ∧
    State.reset.pe = false ∧ State.reset.cr0.getLsbD 1 = false ∧ State.reset.cr0.getLsbD 2 = false ∧
    State.reset.ts = false ∧ State.reset.pg = false ∧ State.reset.idtr = ⟨0x03FF, 0⟩ ∧
    State.reset.dr7.extractLsb' 0 8 = 0 ∧ State.reset.cpl = 0 ∧ State.reset.inhibit = .none
end

