-- ==== Sys2Proof/Laws/State.lean ====
section
/-! SUPPORT. One lemma per field per update of the state, so that no proof unfolds a record update. -/

namespace Sys2Proof.Machine

/-! ### setFlags -/

@[simp] theorem State.setFlags_cfg (s : State) (f : Flags) : (s.setFlags f).cfg = s.cfg := rfl
@[simp] theorem State.setFlags_regs (s : State) (f : Flags) : (s.setFlags f).regs = s.regs := rfl
@[simp] theorem State.setFlags_eip (s : State) (f : Flags) : (s.setFlags f).eip = s.eip := rfl
@[simp] theorem State.setFlags_eipCarry (s : State) (f : Flags) : (s.setFlags f).eipCarry = s.eipCarry := rfl
@[simp] theorem State.setFlags_flags (s : State) (f : Flags) : (s.setFlags f).flags = f := rfl
@[simp] theorem State.setFlags_segs (s : State) (f : Flags) : (s.setFlags f).segs = s.segs := rfl
@[simp] theorem State.setFlags_gdtr (s : State) (f : Flags) : (s.setFlags f).gdtr = s.gdtr := rfl
@[simp] theorem State.setFlags_idtr (s : State) (f : Flags) : (s.setFlags f).idtr = s.idtr := rfl
@[simp] theorem State.setFlags_ldtr (s : State) (f : Flags) : (s.setFlags f).ldtr = s.ldtr := rfl
@[simp] theorem State.setFlags_taskr (s : State) (f : Flags) : (s.setFlags f).taskr = s.taskr := rfl
@[simp] theorem State.setFlags_cr0 (s : State) (f : Flags) : (s.setFlags f).cr0 = s.cr0 := rfl
@[simp] theorem State.setFlags_cr2 (s : State) (f : Flags) : (s.setFlags f).cr2 = s.cr2 := rfl
@[simp] theorem State.setFlags_cr3 (s : State) (f : Flags) : (s.setFlags f).cr3 = s.cr3 := rfl
@[simp] theorem State.setFlags_dr0 (s : State) (f : Flags) : (s.setFlags f).dr0 = s.dr0 := rfl
@[simp] theorem State.setFlags_dr1 (s : State) (f : Flags) : (s.setFlags f).dr1 = s.dr1 := rfl
@[simp] theorem State.setFlags_dr2 (s : State) (f : Flags) : (s.setFlags f).dr2 = s.dr2 := rfl
@[simp] theorem State.setFlags_dr3 (s : State) (f : Flags) : (s.setFlags f).dr3 = s.dr3 := rfl
@[simp] theorem State.setFlags_dr6 (s : State) (f : Flags) : (s.setFlags f).dr6 = s.dr6 := rfl
@[simp] theorem State.setFlags_dr7 (s : State) (f : Flags) : (s.setFlags f).dr7 = s.dr7 := rfl
@[simp] theorem State.setFlags_cpl (s : State) (f : Flags) : (s.setFlags f).cpl = s.cpl := rfl
@[simp] theorem State.setFlags_inhibit (s : State) (f : Flags) : (s.setFlags f).inhibit = s.inhibit := rfl
@[simp] theorem State.setFlags_busyPin (s : State) (f : Flags) : (s.setFlags f).busyPin = s.busyPin := rfl
@[simp] theorem State.setFlags_errorPin (s : State) (f : Flags) : (s.setFlags f).errorPin = s.errorPin := rfl
@[simp] theorem State.setFlags_intrPending (s : State) (f : Flags) : (s.setFlags f).intrPending = s.intrPending := rfl
@[simp] theorem State.setFlags_nmiPending (s : State) (f : Flags) : (s.setFlags f).nmiPending = s.nmiPending := rfl
@[simp] theorem State.setFlags_mem (s : State) (f : Flags) : (s.setFlags f).mem = s.mem := rfl
@[simp] theorem State.setFlags_stored (s : State) (f : Flags) : (s.setFlags f).stored = s.stored := rfl
@[simp] theorem State.setFlags_ioOut (s : State) (f : Flags) : (s.setFlags f).ioOut = s.ioOut := rfl
@[simp] theorem State.setFlags_ctx (s : State) (f : Flags) : (s.setFlags f).ctx = s.ctx := rfl
@[simp] theorem State.setFlags_draws (s : State) (f : Flags) : (s.setFlags f).draws = s.draws := rfl

/-! ### setSeg -/

@[simp] theorem State.setSeg_cfg (s : State) (r : SegReg) (x : Segment) : (s.setSeg r x).cfg = s.cfg := rfl
@[simp] theorem State.setSeg_regs (s : State) (r : SegReg) (x : Segment) : (s.setSeg r x).regs = s.regs := rfl
@[simp] theorem State.setSeg_eip (s : State) (r : SegReg) (x : Segment) : (s.setSeg r x).eip = s.eip := rfl
@[simp] theorem State.setSeg_eipCarry (s : State) (r : SegReg) (x : Segment) : (s.setSeg r x).eipCarry = s.eipCarry := rfl
@[simp] theorem State.setSeg_flags (s : State) (r : SegReg) (x : Segment) : (s.setSeg r x).flags = s.flags := rfl
@[simp] theorem State.setSeg_segs (s : State) (r : SegReg) (x : Segment) : (s.setSeg r x).segs = s.segs.set r x := rfl
@[simp] theorem State.setSeg_gdtr (s : State) (r : SegReg) (x : Segment) : (s.setSeg r x).gdtr = s.gdtr := rfl
@[simp] theorem State.setSeg_idtr (s : State) (r : SegReg) (x : Segment) : (s.setSeg r x).idtr = s.idtr := rfl
@[simp] theorem State.setSeg_ldtr (s : State) (r : SegReg) (x : Segment) : (s.setSeg r x).ldtr = s.ldtr := rfl
@[simp] theorem State.setSeg_taskr (s : State) (r : SegReg) (x : Segment) : (s.setSeg r x).taskr = s.taskr := rfl
@[simp] theorem State.setSeg_cr0 (s : State) (r : SegReg) (x : Segment) : (s.setSeg r x).cr0 = s.cr0 := rfl
@[simp] theorem State.setSeg_cr2 (s : State) (r : SegReg) (x : Segment) : (s.setSeg r x).cr2 = s.cr2 := rfl
@[simp] theorem State.setSeg_cr3 (s : State) (r : SegReg) (x : Segment) : (s.setSeg r x).cr3 = s.cr3 := rfl
@[simp] theorem State.setSeg_dr0 (s : State) (r : SegReg) (x : Segment) : (s.setSeg r x).dr0 = s.dr0 := rfl
@[simp] theorem State.setSeg_dr1 (s : State) (r : SegReg) (x : Segment) : (s.setSeg r x).dr1 = s.dr1 := rfl
@[simp] theorem State.setSeg_dr2 (s : State) (r : SegReg) (x : Segment) : (s.setSeg r x).dr2 = s.dr2 := rfl
@[simp] theorem State.setSeg_dr3 (s : State) (r : SegReg) (x : Segment) : (s.setSeg r x).dr3 = s.dr3 := rfl
@[simp] theorem State.setSeg_dr6 (s : State) (r : SegReg) (x : Segment) : (s.setSeg r x).dr6 = s.dr6 := rfl
@[simp] theorem State.setSeg_dr7 (s : State) (r : SegReg) (x : Segment) : (s.setSeg r x).dr7 = s.dr7 := rfl
@[simp] theorem State.setSeg_cpl (s : State) (r : SegReg) (x : Segment) : (s.setSeg r x).cpl = s.cpl := rfl
@[simp] theorem State.setSeg_inhibit (s : State) (r : SegReg) (x : Segment) : (s.setSeg r x).inhibit = s.inhibit := rfl
@[simp] theorem State.setSeg_busyPin (s : State) (r : SegReg) (x : Segment) : (s.setSeg r x).busyPin = s.busyPin := rfl
@[simp] theorem State.setSeg_errorPin (s : State) (r : SegReg) (x : Segment) : (s.setSeg r x).errorPin = s.errorPin := rfl
@[simp] theorem State.setSeg_intrPending (s : State) (r : SegReg) (x : Segment) : (s.setSeg r x).intrPending = s.intrPending := rfl
@[simp] theorem State.setSeg_nmiPending (s : State) (r : SegReg) (x : Segment) : (s.setSeg r x).nmiPending = s.nmiPending := rfl
@[simp] theorem State.setSeg_mem (s : State) (r : SegReg) (x : Segment) : (s.setSeg r x).mem = s.mem := rfl
@[simp] theorem State.setSeg_stored (s : State) (r : SegReg) (x : Segment) : (s.setSeg r x).stored = s.stored := rfl
@[simp] theorem State.setSeg_ioOut (s : State) (r : SegReg) (x : Segment) : (s.setSeg r x).ioOut = s.ioOut := rfl
@[simp] theorem State.setSeg_ctx (s : State) (r : SegReg) (x : Segment) : (s.setSeg r x).ctx = s.ctx := rfl
@[simp] theorem State.setSeg_draws (s : State) (r : SegReg) (x : Segment) : (s.setSeg r x).draws = s.draws := rfl

/-! ### drawn -/

@[simp] theorem State.drawn_cfg (s : State) : (s.drawn).cfg = s.cfg := rfl
@[simp] theorem State.drawn_regs (s : State) : (s.drawn).regs = s.regs := rfl
@[simp] theorem State.drawn_eip (s : State) : (s.drawn).eip = s.eip := rfl
@[simp] theorem State.drawn_eipCarry (s : State) : (s.drawn).eipCarry = s.eipCarry := rfl
@[simp] theorem State.drawn_flags (s : State) : (s.drawn).flags = s.flags := rfl
@[simp] theorem State.drawn_segs (s : State) : (s.drawn).segs = s.segs := rfl
@[simp] theorem State.drawn_gdtr (s : State) : (s.drawn).gdtr = s.gdtr := rfl
@[simp] theorem State.drawn_idtr (s : State) : (s.drawn).idtr = s.idtr := rfl
@[simp] theorem State.drawn_ldtr (s : State) : (s.drawn).ldtr = s.ldtr := rfl
@[simp] theorem State.drawn_taskr (s : State) : (s.drawn).taskr = s.taskr := rfl
@[simp] theorem State.drawn_cr0 (s : State) : (s.drawn).cr0 = s.cr0 := rfl
@[simp] theorem State.drawn_cr2 (s : State) : (s.drawn).cr2 = s.cr2 := rfl
@[simp] theorem State.drawn_cr3 (s : State) : (s.drawn).cr3 = s.cr3 := rfl
@[simp] theorem State.drawn_dr0 (s : State) : (s.drawn).dr0 = s.dr0 := rfl
@[simp] theorem State.drawn_dr1 (s : State) : (s.drawn).dr1 = s.dr1 := rfl
@[simp] theorem State.drawn_dr2 (s : State) : (s.drawn).dr2 = s.dr2 := rfl
@[simp] theorem State.drawn_dr3 (s : State) : (s.drawn).dr3 = s.dr3 := rfl
@[simp] theorem State.drawn_dr6 (s : State) : (s.drawn).dr6 = s.dr6 := rfl
@[simp] theorem State.drawn_dr7 (s : State) : (s.drawn).dr7 = s.dr7 := rfl
@[simp] theorem State.drawn_cpl (s : State) : (s.drawn).cpl = s.cpl := rfl
@[simp] theorem State.drawn_inhibit (s : State) : (s.drawn).inhibit = s.inhibit := rfl
@[simp] theorem State.drawn_busyPin (s : State) : (s.drawn).busyPin = s.busyPin := rfl
@[simp] theorem State.drawn_errorPin (s : State) : (s.drawn).errorPin = s.errorPin := rfl
@[simp] theorem State.drawn_intrPending (s : State) : (s.drawn).intrPending = s.intrPending := rfl
@[simp] theorem State.drawn_nmiPending (s : State) : (s.drawn).nmiPending = s.nmiPending := rfl
@[simp] theorem State.drawn_mem (s : State) : (s.drawn).mem = s.mem := rfl
@[simp] theorem State.drawn_stored (s : State) : (s.drawn).stored = s.stored := rfl
@[simp] theorem State.drawn_ioOut (s : State) : (s.drawn).ioOut = s.ioOut := rfl
@[simp] theorem State.drawn_ctx (s : State) : (s.drawn).ctx = s.ctx := rfl
@[simp] theorem State.drawn_draws (s : State) : (s.drawn).draws = s.draws + 1 := rfl

/-! ### retireWith -/

@[simp] theorem State.retireWith_cfg (s : State) (i : Inhibit) : (s.retireWith i).cfg = s.cfg := rfl
@[simp] theorem State.retireWith_regs (s : State) (i : Inhibit) : (s.retireWith i).regs = s.regs := rfl
@[simp] theorem State.retireWith_eip (s : State) (i : Inhibit) : (s.retireWith i).eip = s.eipNext := rfl
@[simp] theorem State.retireWith_eipCarry (s : State) (i : Inhibit) : (s.retireWith i).eipCarry = s.nextCarry := rfl
@[simp] theorem State.retireWith_flags (s : State) (i : Inhibit) : (s.retireWith i).flags = s.flags := rfl
@[simp] theorem State.retireWith_segs (s : State) (i : Inhibit) : (s.retireWith i).segs = s.segs := rfl
@[simp] theorem State.retireWith_gdtr (s : State) (i : Inhibit) : (s.retireWith i).gdtr = s.gdtr := rfl
@[simp] theorem State.retireWith_idtr (s : State) (i : Inhibit) : (s.retireWith i).idtr = s.idtr := rfl
@[simp] theorem State.retireWith_ldtr (s : State) (i : Inhibit) : (s.retireWith i).ldtr = s.ldtr := rfl
@[simp] theorem State.retireWith_taskr (s : State) (i : Inhibit) : (s.retireWith i).taskr = s.taskr := rfl
@[simp] theorem State.retireWith_cr0 (s : State) (i : Inhibit) : (s.retireWith i).cr0 = s.cr0 := rfl
@[simp] theorem State.retireWith_cr2 (s : State) (i : Inhibit) : (s.retireWith i).cr2 = s.cr2 := rfl
@[simp] theorem State.retireWith_cr3 (s : State) (i : Inhibit) : (s.retireWith i).cr3 = s.cr3 := rfl
@[simp] theorem State.retireWith_dr0 (s : State) (i : Inhibit) : (s.retireWith i).dr0 = s.dr0 := rfl
@[simp] theorem State.retireWith_dr1 (s : State) (i : Inhibit) : (s.retireWith i).dr1 = s.dr1 := rfl
@[simp] theorem State.retireWith_dr2 (s : State) (i : Inhibit) : (s.retireWith i).dr2 = s.dr2 := rfl
@[simp] theorem State.retireWith_dr3 (s : State) (i : Inhibit) : (s.retireWith i).dr3 = s.dr3 := rfl
@[simp] theorem State.retireWith_dr6 (s : State) (i : Inhibit) : (s.retireWith i).dr6 = s.dr6 := rfl
@[simp] theorem State.retireWith_dr7 (s : State) (i : Inhibit) : (s.retireWith i).dr7 = s.dr7 := rfl
@[simp] theorem State.retireWith_cpl (s : State) (i : Inhibit) : (s.retireWith i).cpl = s.cpl := rfl
@[simp] theorem State.retireWith_inhibit (s : State) (i : Inhibit) : (s.retireWith i).inhibit = i := rfl
@[simp] theorem State.retireWith_busyPin (s : State) (i : Inhibit) : (s.retireWith i).busyPin = s.busyPin := rfl
@[simp] theorem State.retireWith_errorPin (s : State) (i : Inhibit) : (s.retireWith i).errorPin = s.errorPin := rfl
@[simp] theorem State.retireWith_intrPending (s : State) (i : Inhibit) : (s.retireWith i).intrPending = s.intrPending := rfl
@[simp] theorem State.retireWith_nmiPending (s : State) (i : Inhibit) : (s.retireWith i).nmiPending = s.nmiPending := rfl
@[simp] theorem State.retireWith_mem (s : State) (i : Inhibit) : (s.retireWith i).mem = s.mem := rfl
@[simp] theorem State.retireWith_stored (s : State) (i : Inhibit) : (s.retireWith i).stored = s.stored := rfl
@[simp] theorem State.retireWith_ioOut (s : State) (i : Inhibit) : (s.retireWith i).ioOut = s.ioOut := rfl
@[simp] theorem State.retireWith_ctx (s : State) (i : Inhibit) : (s.retireWith i).ctx = {} := rfl
@[simp] theorem State.retireWith_draws (s : State) (i : Inhibit) : (s.retireWith i).draws = s.draws := rfl

/-! ### retire -/

@[simp] theorem State.retire_cfg (s : State) : (s.retire).cfg = s.cfg := rfl
@[simp] theorem State.retire_regs (s : State) : (s.retire).regs = s.regs := rfl
@[simp] theorem State.retire_eip (s : State) : (s.retire).eip = s.eipNext := rfl
@[simp] theorem State.retire_eipCarry (s : State) : (s.retire).eipCarry = s.nextCarry := rfl
@[simp] theorem State.retire_flags (s : State) : (s.retire).flags = s.flags := rfl
@[simp] theorem State.retire_segs (s : State) : (s.retire).segs = s.segs := rfl
@[simp] theorem State.retire_gdtr (s : State) : (s.retire).gdtr = s.gdtr := rfl
@[simp] theorem State.retire_idtr (s : State) : (s.retire).idtr = s.idtr := rfl
@[simp] theorem State.retire_ldtr (s : State) : (s.retire).ldtr = s.ldtr := rfl
@[simp] theorem State.retire_taskr (s : State) : (s.retire).taskr = s.taskr := rfl
@[simp] theorem State.retire_cr0 (s : State) : (s.retire).cr0 = s.cr0 := rfl
@[simp] theorem State.retire_cr2 (s : State) : (s.retire).cr2 = s.cr2 := rfl
@[simp] theorem State.retire_cr3 (s : State) : (s.retire).cr3 = s.cr3 := rfl
@[simp] theorem State.retire_dr0 (s : State) : (s.retire).dr0 = s.dr0 := rfl
@[simp] theorem State.retire_dr1 (s : State) : (s.retire).dr1 = s.dr1 := rfl
@[simp] theorem State.retire_dr2 (s : State) : (s.retire).dr2 = s.dr2 := rfl
@[simp] theorem State.retire_dr3 (s : State) : (s.retire).dr3 = s.dr3 := rfl
@[simp] theorem State.retire_dr6 (s : State) : (s.retire).dr6 = s.dr6 := rfl
@[simp] theorem State.retire_dr7 (s : State) : (s.retire).dr7 = s.dr7 := rfl
@[simp] theorem State.retire_cpl (s : State) : (s.retire).cpl = s.cpl := rfl
@[simp] theorem State.retire_inhibit (s : State) : (s.retire).inhibit = .none := rfl
@[simp] theorem State.retire_busyPin (s : State) : (s.retire).busyPin = s.busyPin := rfl
@[simp] theorem State.retire_errorPin (s : State) : (s.retire).errorPin = s.errorPin := rfl
@[simp] theorem State.retire_intrPending (s : State) : (s.retire).intrPending = s.intrPending := rfl
@[simp] theorem State.retire_nmiPending (s : State) : (s.retire).nmiPending = s.nmiPending := rfl
@[simp] theorem State.retire_mem (s : State) : (s.retire).mem = s.mem := rfl
@[simp] theorem State.retire_stored (s : State) : (s.retire).stored = s.stored := rfl
@[simp] theorem State.retire_ioOut (s : State) : (s.retire).ioOut = s.ioOut := rfl
@[simp] theorem State.retire_ctx (s : State) : (s.retire).ctx = {} := rfl
@[simp] theorem State.retire_draws (s : State) : (s.retire).draws = s.draws := rfl

/-! ### again -/

@[simp] theorem State.again_cfg (s : State) : (s.again).cfg = s.cfg := rfl
@[simp] theorem State.again_regs (s : State) : (s.again).regs = s.regs := rfl
@[simp] theorem State.again_eip (s : State) : (s.again).eip = s.eip := rfl
@[simp] theorem State.again_eipCarry (s : State) : (s.again).eipCarry = s.eipCarry := rfl
@[simp] theorem State.again_flags (s : State) : (s.again).flags = s.flags := rfl
@[simp] theorem State.again_segs (s : State) : (s.again).segs = s.segs := rfl
@[simp] theorem State.again_gdtr (s : State) : (s.again).gdtr = s.gdtr := rfl
@[simp] theorem State.again_idtr (s : State) : (s.again).idtr = s.idtr := rfl
@[simp] theorem State.again_ldtr (s : State) : (s.again).ldtr = s.ldtr := rfl
@[simp] theorem State.again_taskr (s : State) : (s.again).taskr = s.taskr := rfl
@[simp] theorem State.again_cr0 (s : State) : (s.again).cr0 = s.cr0 := rfl
@[simp] theorem State.again_cr2 (s : State) : (s.again).cr2 = s.cr2 := rfl
@[simp] theorem State.again_cr3 (s : State) : (s.again).cr3 = s.cr3 := rfl
@[simp] theorem State.again_dr0 (s : State) : (s.again).dr0 = s.dr0 := rfl
@[simp] theorem State.again_dr1 (s : State) : (s.again).dr1 = s.dr1 := rfl
@[simp] theorem State.again_dr2 (s : State) : (s.again).dr2 = s.dr2 := rfl
@[simp] theorem State.again_dr3 (s : State) : (s.again).dr3 = s.dr3 := rfl
@[simp] theorem State.again_dr6 (s : State) : (s.again).dr6 = s.dr6 := rfl
@[simp] theorem State.again_dr7 (s : State) : (s.again).dr7 = s.dr7 := rfl
@[simp] theorem State.again_cpl (s : State) : (s.again).cpl = s.cpl := rfl
@[simp] theorem State.again_inhibit (s : State) : (s.again).inhibit = .none := rfl
@[simp] theorem State.again_busyPin (s : State) : (s.again).busyPin = s.busyPin := rfl
@[simp] theorem State.again_errorPin (s : State) : (s.again).errorPin = s.errorPin := rfl
@[simp] theorem State.again_intrPending (s : State) : (s.again).intrPending = s.intrPending := rfl
@[simp] theorem State.again_nmiPending (s : State) : (s.again).nmiPending = s.nmiPending := rfl
@[simp] theorem State.again_mem (s : State) : (s.again).mem = s.mem := rfl
@[simp] theorem State.again_stored (s : State) : (s.again).stored = s.stored := rfl
@[simp] theorem State.again_ioOut (s : State) : (s.again).ioOut = s.ioOut := rfl
@[simp] theorem State.again_ctx (s : State) : (s.again).ctx = {} := rfl
@[simp] theorem State.again_draws (s : State) : (s.again).draws = s.draws := rfl

/-! ### hold -/

@[simp] theorem State.hold_cfg (s : State) : (s.hold).cfg = s.cfg := rfl
@[simp] theorem State.hold_regs (s : State) : (s.hold).regs = s.regs := rfl
@[simp] theorem State.hold_eip (s : State) : (s.hold).eip = s.eip := rfl
@[simp] theorem State.hold_eipCarry (s : State) : (s.hold).eipCarry = s.eipCarry := rfl
@[simp] theorem State.hold_flags (s : State) : (s.hold).flags = s.flags := rfl
@[simp] theorem State.hold_segs (s : State) : (s.hold).segs = s.segs := rfl
@[simp] theorem State.hold_gdtr (s : State) : (s.hold).gdtr = s.gdtr := rfl
@[simp] theorem State.hold_idtr (s : State) : (s.hold).idtr = s.idtr := rfl
@[simp] theorem State.hold_ldtr (s : State) : (s.hold).ldtr = s.ldtr := rfl
@[simp] theorem State.hold_taskr (s : State) : (s.hold).taskr = s.taskr := rfl
@[simp] theorem State.hold_cr0 (s : State) : (s.hold).cr0 = s.cr0 := rfl
@[simp] theorem State.hold_cr2 (s : State) : (s.hold).cr2 = s.cr2 := rfl
@[simp] theorem State.hold_cr3 (s : State) : (s.hold).cr3 = s.cr3 := rfl
@[simp] theorem State.hold_dr0 (s : State) : (s.hold).dr0 = s.dr0 := rfl
@[simp] theorem State.hold_dr1 (s : State) : (s.hold).dr1 = s.dr1 := rfl
@[simp] theorem State.hold_dr2 (s : State) : (s.hold).dr2 = s.dr2 := rfl
@[simp] theorem State.hold_dr3 (s : State) : (s.hold).dr3 = s.dr3 := rfl
@[simp] theorem State.hold_dr6 (s : State) : (s.hold).dr6 = s.dr6 := rfl
@[simp] theorem State.hold_dr7 (s : State) : (s.hold).dr7 = s.dr7 := rfl
@[simp] theorem State.hold_cpl (s : State) : (s.hold).cpl = s.cpl := rfl
@[simp] theorem State.hold_inhibit (s : State) : (s.hold).inhibit = s.inhibit := rfl
@[simp] theorem State.hold_busyPin (s : State) : (s.hold).busyPin = s.busyPin := rfl
@[simp] theorem State.hold_errorPin (s : State) : (s.hold).errorPin = s.errorPin := rfl
@[simp] theorem State.hold_intrPending (s : State) : (s.hold).intrPending = s.intrPending := rfl
@[simp] theorem State.hold_nmiPending (s : State) : (s.hold).nmiPending = s.nmiPending := rfl
@[simp] theorem State.hold_mem (s : State) : (s.hold).mem = s.mem := rfl
@[simp] theorem State.hold_stored (s : State) : (s.hold).stored = s.stored := rfl
@[simp] theorem State.hold_ioOut (s : State) : (s.hold).ioOut = s.ioOut := rfl
@[simp] theorem State.hold_ctx (s : State) : (s.hold).ctx = {} := rfl
@[simp] theorem State.hold_draws (s : State) : (s.hold).draws = s.draws := rfl

/-! ### jumpTo -/

@[simp] theorem State.jumpTo_cfg (s : State) (t : Word) : (s.jumpTo t).cfg = s.cfg := rfl
@[simp] theorem State.jumpTo_regs (s : State) (t : Word) : (s.jumpTo t).regs = s.regs := rfl
@[simp] theorem State.jumpTo_eip (s : State) (t : Word) : (s.jumpTo t).eip = t := rfl
@[simp] theorem State.jumpTo_eipCarry (s : State) (t : Word) : (s.jumpTo t).eipCarry = false := rfl
@[simp] theorem State.jumpTo_flags (s : State) (t : Word) : (s.jumpTo t).flags = s.flags := rfl
@[simp] theorem State.jumpTo_segs (s : State) (t : Word) : (s.jumpTo t).segs = s.segs := rfl
@[simp] theorem State.jumpTo_gdtr (s : State) (t : Word) : (s.jumpTo t).gdtr = s.gdtr := rfl
@[simp] theorem State.jumpTo_idtr (s : State) (t : Word) : (s.jumpTo t).idtr = s.idtr := rfl
@[simp] theorem State.jumpTo_ldtr (s : State) (t : Word) : (s.jumpTo t).ldtr = s.ldtr := rfl
@[simp] theorem State.jumpTo_taskr (s : State) (t : Word) : (s.jumpTo t).taskr = s.taskr := rfl
@[simp] theorem State.jumpTo_cr0 (s : State) (t : Word) : (s.jumpTo t).cr0 = s.cr0 := rfl
@[simp] theorem State.jumpTo_cr2 (s : State) (t : Word) : (s.jumpTo t).cr2 = s.cr2 := rfl
@[simp] theorem State.jumpTo_cr3 (s : State) (t : Word) : (s.jumpTo t).cr3 = s.cr3 := rfl
@[simp] theorem State.jumpTo_dr0 (s : State) (t : Word) : (s.jumpTo t).dr0 = s.dr0 := rfl
@[simp] theorem State.jumpTo_dr1 (s : State) (t : Word) : (s.jumpTo t).dr1 = s.dr1 := rfl
@[simp] theorem State.jumpTo_dr2 (s : State) (t : Word) : (s.jumpTo t).dr2 = s.dr2 := rfl
@[simp] theorem State.jumpTo_dr3 (s : State) (t : Word) : (s.jumpTo t).dr3 = s.dr3 := rfl
@[simp] theorem State.jumpTo_dr6 (s : State) (t : Word) : (s.jumpTo t).dr6 = s.dr6 := rfl
@[simp] theorem State.jumpTo_dr7 (s : State) (t : Word) : (s.jumpTo t).dr7 = s.dr7 := rfl
@[simp] theorem State.jumpTo_cpl (s : State) (t : Word) : (s.jumpTo t).cpl = s.cpl := rfl
@[simp] theorem State.jumpTo_inhibit (s : State) (t : Word) : (s.jumpTo t).inhibit = .none := rfl
@[simp] theorem State.jumpTo_busyPin (s : State) (t : Word) : (s.jumpTo t).busyPin = s.busyPin := rfl
@[simp] theorem State.jumpTo_errorPin (s : State) (t : Word) : (s.jumpTo t).errorPin = s.errorPin := rfl
@[simp] theorem State.jumpTo_intrPending (s : State) (t : Word) : (s.jumpTo t).intrPending = s.intrPending := rfl
@[simp] theorem State.jumpTo_nmiPending (s : State) (t : Word) : (s.jumpTo t).nmiPending = s.nmiPending := rfl
@[simp] theorem State.jumpTo_mem (s : State) (t : Word) : (s.jumpTo t).mem = s.mem := rfl
@[simp] theorem State.jumpTo_stored (s : State) (t : Word) : (s.jumpTo t).stored = [] := rfl
@[simp] theorem State.jumpTo_ioOut (s : State) (t : Word) : (s.jumpTo t).ioOut = s.ioOut := rfl
@[simp] theorem State.jumpTo_ctx (s : State) (t : Word) : (s.jumpTo t).ctx = {} := rfl
@[simp] theorem State.jumpTo_draws (s : State) (t : Word) : (s.jumpTo t).draws = s.draws := rfl

/-! ### emit -/

@[simp] theorem State.emit_cfg (s : State) (p : Half) (w : Width) (v : Word) : (s.emit p w v).cfg = s.cfg := rfl
@[simp] theorem State.emit_regs (s : State) (p : Half) (w : Width) (v : Word) : (s.emit p w v).regs = s.regs := rfl
@[simp] theorem State.emit_eip (s : State) (p : Half) (w : Width) (v : Word) : (s.emit p w v).eip = s.eip := rfl
@[simp] theorem State.emit_eipCarry (s : State) (p : Half) (w : Width) (v : Word) : (s.emit p w v).eipCarry = s.eipCarry := rfl
@[simp] theorem State.emit_flags (s : State) (p : Half) (w : Width) (v : Word) : (s.emit p w v).flags = s.flags := rfl
@[simp] theorem State.emit_segs (s : State) (p : Half) (w : Width) (v : Word) : (s.emit p w v).segs = s.segs := rfl
@[simp] theorem State.emit_gdtr (s : State) (p : Half) (w : Width) (v : Word) : (s.emit p w v).gdtr = s.gdtr := rfl
@[simp] theorem State.emit_idtr (s : State) (p : Half) (w : Width) (v : Word) : (s.emit p w v).idtr = s.idtr := rfl
@[simp] theorem State.emit_ldtr (s : State) (p : Half) (w : Width) (v : Word) : (s.emit p w v).ldtr = s.ldtr := rfl
@[simp] theorem State.emit_taskr (s : State) (p : Half) (w : Width) (v : Word) : (s.emit p w v).taskr = s.taskr := rfl
@[simp] theorem State.emit_cr0 (s : State) (p : Half) (w : Width) (v : Word) : (s.emit p w v).cr0 = s.cr0 := rfl
@[simp] theorem State.emit_cr2 (s : State) (p : Half) (w : Width) (v : Word) : (s.emit p w v).cr2 = s.cr2 := rfl
@[simp] theorem State.emit_cr3 (s : State) (p : Half) (w : Width) (v : Word) : (s.emit p w v).cr3 = s.cr3 := rfl
@[simp] theorem State.emit_dr0 (s : State) (p : Half) (w : Width) (v : Word) : (s.emit p w v).dr0 = s.dr0 := rfl
@[simp] theorem State.emit_dr1 (s : State) (p : Half) (w : Width) (v : Word) : (s.emit p w v).dr1 = s.dr1 := rfl
@[simp] theorem State.emit_dr2 (s : State) (p : Half) (w : Width) (v : Word) : (s.emit p w v).dr2 = s.dr2 := rfl
@[simp] theorem State.emit_dr3 (s : State) (p : Half) (w : Width) (v : Word) : (s.emit p w v).dr3 = s.dr3 := rfl
@[simp] theorem State.emit_dr6 (s : State) (p : Half) (w : Width) (v : Word) : (s.emit p w v).dr6 = s.dr6 := rfl
@[simp] theorem State.emit_dr7 (s : State) (p : Half) (w : Width) (v : Word) : (s.emit p w v).dr7 = s.dr7 := rfl
@[simp] theorem State.emit_cpl (s : State) (p : Half) (w : Width) (v : Word) : (s.emit p w v).cpl = s.cpl := rfl
@[simp] theorem State.emit_inhibit (s : State) (p : Half) (w : Width) (v : Word) : (s.emit p w v).inhibit = s.inhibit := rfl
@[simp] theorem State.emit_busyPin (s : State) (p : Half) (w : Width) (v : Word) : (s.emit p w v).busyPin = s.busyPin := rfl
@[simp] theorem State.emit_errorPin (s : State) (p : Half) (w : Width) (v : Word) : (s.emit p w v).errorPin = s.errorPin := rfl
@[simp] theorem State.emit_intrPending (s : State) (p : Half) (w : Width) (v : Word) : (s.emit p w v).intrPending = s.intrPending := rfl
@[simp] theorem State.emit_nmiPending (s : State) (p : Half) (w : Width) (v : Word) : (s.emit p w v).nmiPending = s.nmiPending := rfl
@[simp] theorem State.emit_mem (s : State) (p : Half) (w : Width) (v : Word) : (s.emit p w v).mem = s.mem := rfl
@[simp] theorem State.emit_stored (s : State) (p : Half) (w : Width) (v : Word) : (s.emit p w v).stored = s.stored := rfl
@[simp] theorem State.emit_ioOut (s : State) (p : Half) (w : Width) (v : Word) : (s.emit p w v).ioOut = s.ioOut ++ [{ port := p, width := w, value := v }] := rfl
@[simp] theorem State.emit_ctx (s : State) (p : Half) (w : Width) (v : Word) : (s.emit p w v).ctx = s.ctx := rfl
@[simp] theorem State.emit_draws (s : State) (p : Half) (w : Width) (v : Word) : (s.emit p w v).draws = s.draws := rfl

/-! ### poke -/

@[simp] theorem State.poke_cfg (s : State) (a : Nat) (b : Byte) : (s.poke a b).cfg = s.cfg := rfl
@[simp] theorem State.poke_regs (s : State) (a : Nat) (b : Byte) : (s.poke a b).regs = s.regs := rfl
@[simp] theorem State.poke_eip (s : State) (a : Nat) (b : Byte) : (s.poke a b).eip = s.eip := rfl
@[simp] theorem State.poke_eipCarry (s : State) (a : Nat) (b : Byte) : (s.poke a b).eipCarry = s.eipCarry := rfl
@[simp] theorem State.poke_flags (s : State) (a : Nat) (b : Byte) : (s.poke a b).flags = s.flags := rfl
@[simp] theorem State.poke_segs (s : State) (a : Nat) (b : Byte) : (s.poke a b).segs = s.segs := rfl
@[simp] theorem State.poke_gdtr (s : State) (a : Nat) (b : Byte) : (s.poke a b).gdtr = s.gdtr := rfl
@[simp] theorem State.poke_idtr (s : State) (a : Nat) (b : Byte) : (s.poke a b).idtr = s.idtr := rfl
@[simp] theorem State.poke_ldtr (s : State) (a : Nat) (b : Byte) : (s.poke a b).ldtr = s.ldtr := rfl
@[simp] theorem State.poke_taskr (s : State) (a : Nat) (b : Byte) : (s.poke a b).taskr = s.taskr := rfl
@[simp] theorem State.poke_cr0 (s : State) (a : Nat) (b : Byte) : (s.poke a b).cr0 = s.cr0 := rfl
@[simp] theorem State.poke_cr2 (s : State) (a : Nat) (b : Byte) : (s.poke a b).cr2 = s.cr2 := rfl
@[simp] theorem State.poke_cr3 (s : State) (a : Nat) (b : Byte) : (s.poke a b).cr3 = s.cr3 := rfl
@[simp] theorem State.poke_dr0 (s : State) (a : Nat) (b : Byte) : (s.poke a b).dr0 = s.dr0 := rfl
@[simp] theorem State.poke_dr1 (s : State) (a : Nat) (b : Byte) : (s.poke a b).dr1 = s.dr1 := rfl
@[simp] theorem State.poke_dr2 (s : State) (a : Nat) (b : Byte) : (s.poke a b).dr2 = s.dr2 := rfl
@[simp] theorem State.poke_dr3 (s : State) (a : Nat) (b : Byte) : (s.poke a b).dr3 = s.dr3 := rfl
@[simp] theorem State.poke_dr6 (s : State) (a : Nat) (b : Byte) : (s.poke a b).dr6 = s.dr6 := rfl
@[simp] theorem State.poke_dr7 (s : State) (a : Nat) (b : Byte) : (s.poke a b).dr7 = s.dr7 := rfl
@[simp] theorem State.poke_cpl (s : State) (a : Nat) (b : Byte) : (s.poke a b).cpl = s.cpl := rfl
@[simp] theorem State.poke_inhibit (s : State) (a : Nat) (b : Byte) : (s.poke a b).inhibit = s.inhibit := rfl
@[simp] theorem State.poke_busyPin (s : State) (a : Nat) (b : Byte) : (s.poke a b).busyPin = s.busyPin := rfl
@[simp] theorem State.poke_errorPin (s : State) (a : Nat) (b : Byte) : (s.poke a b).errorPin = s.errorPin := rfl
@[simp] theorem State.poke_intrPending (s : State) (a : Nat) (b : Byte) : (s.poke a b).intrPending = s.intrPending := rfl
@[simp] theorem State.poke_nmiPending (s : State) (a : Nat) (b : Byte) : (s.poke a b).nmiPending = s.nmiPending := rfl
@[simp] theorem State.poke_mem (s : State) (a : Nat) (b : Byte) : (s.poke a b).mem = if s.isRom a then s.mem else s.mem.write a b := rfl
@[simp] theorem State.poke_stored (s : State) (a : Nat) (b : Byte) : (s.poke a b).stored = if s.isRom a then s.stored else noteStored a s.stored := rfl
@[simp] theorem State.poke_ioOut (s : State) (a : Nat) (b : Byte) : (s.poke a b).ioOut = s.ioOut := rfl
@[simp] theorem State.poke_ctx (s : State) (a : Nat) (b : Byte) : (s.poke a b).ctx = s.ctx := rfl
@[simp] theorem State.poke_draws (s : State) (a : Nat) (b : Byte) : (s.poke a b).draws = s.draws := rfl

/-! ### latch -/

@[simp] theorem State.latch_cfg (s : State) (c : Ctx) : (s.latch c).cfg = s.cfg := rfl
@[simp] theorem State.latch_regs (s : State) (c : Ctx) : (s.latch c).regs = s.regs := rfl
@[simp] theorem State.latch_eip (s : State) (c : Ctx) : (s.latch c).eip = s.eip := rfl
@[simp] theorem State.latch_eipCarry (s : State) (c : Ctx) : (s.latch c).eipCarry = s.eipCarry := rfl
@[simp] theorem State.latch_flags (s : State) (c : Ctx) : (s.latch c).flags = s.flags := rfl
@[simp] theorem State.latch_segs (s : State) (c : Ctx) : (s.latch c).segs = s.segs := rfl
@[simp] theorem State.latch_gdtr (s : State) (c : Ctx) : (s.latch c).gdtr = s.gdtr := rfl
@[simp] theorem State.latch_idtr (s : State) (c : Ctx) : (s.latch c).idtr = s.idtr := rfl
@[simp] theorem State.latch_ldtr (s : State) (c : Ctx) : (s.latch c).ldtr = s.ldtr := rfl
@[simp] theorem State.latch_taskr (s : State) (c : Ctx) : (s.latch c).taskr = s.taskr := rfl
@[simp] theorem State.latch_cr0 (s : State) (c : Ctx) : (s.latch c).cr0 = s.cr0 := rfl
@[simp] theorem State.latch_cr2 (s : State) (c : Ctx) : (s.latch c).cr2 = s.cr2 := rfl
@[simp] theorem State.latch_cr3 (s : State) (c : Ctx) : (s.latch c).cr3 = s.cr3 := rfl
@[simp] theorem State.latch_dr0 (s : State) (c : Ctx) : (s.latch c).dr0 = s.dr0 := rfl
@[simp] theorem State.latch_dr1 (s : State) (c : Ctx) : (s.latch c).dr1 = s.dr1 := rfl
@[simp] theorem State.latch_dr2 (s : State) (c : Ctx) : (s.latch c).dr2 = s.dr2 := rfl
@[simp] theorem State.latch_dr3 (s : State) (c : Ctx) : (s.latch c).dr3 = s.dr3 := rfl
@[simp] theorem State.latch_dr6 (s : State) (c : Ctx) : (s.latch c).dr6 = s.dr6 := rfl
@[simp] theorem State.latch_dr7 (s : State) (c : Ctx) : (s.latch c).dr7 = s.dr7 := rfl
@[simp] theorem State.latch_cpl (s : State) (c : Ctx) : (s.latch c).cpl = s.cpl := rfl
@[simp] theorem State.latch_inhibit (s : State) (c : Ctx) : (s.latch c).inhibit = s.inhibit := rfl
@[simp] theorem State.latch_busyPin (s : State) (c : Ctx) : (s.latch c).busyPin = s.busyPin := rfl
@[simp] theorem State.latch_errorPin (s : State) (c : Ctx) : (s.latch c).errorPin = s.errorPin := rfl
@[simp] theorem State.latch_intrPending (s : State) (c : Ctx) : (s.latch c).intrPending = s.intrPending := rfl
@[simp] theorem State.latch_nmiPending (s : State) (c : Ctx) : (s.latch c).nmiPending = s.nmiPending := rfl
@[simp] theorem State.latch_mem (s : State) (c : Ctx) : (s.latch c).mem = s.mem := rfl
@[simp] theorem State.latch_stored (s : State) (c : Ctx) : (s.latch c).stored = s.stored := rfl
@[simp] theorem State.latch_ioOut (s : State) (c : Ctx) : (s.latch c).ioOut = s.ioOut := rfl
@[simp] theorem State.latch_ctx (s : State) (c : Ctx) : (s.latch c).ctx = { c with len := c.len + 1 } := rfl
@[simp] theorem State.latch_draws (s : State) (c : Ctx) : (s.latch c).draws = s.draws := rfl

/-! ### withLength -/

@[simp] theorem State.withLength_cfg (s : State) (n : Nat) : (s.withLength n).cfg = s.cfg := rfl
@[simp] theorem State.withLength_regs (s : State) (n : Nat) : (s.withLength n).regs = s.regs := rfl
@[simp] theorem State.withLength_eip (s : State) (n : Nat) : (s.withLength n).eip = s.eip := rfl
@[simp] theorem State.withLength_eipCarry (s : State) (n : Nat) : (s.withLength n).eipCarry = s.eipCarry := rfl
@[simp] theorem State.withLength_flags (s : State) (n : Nat) : (s.withLength n).flags = s.flags := rfl
@[simp] theorem State.withLength_segs (s : State) (n : Nat) : (s.withLength n).segs = s.segs := rfl
@[simp] theorem State.withLength_gdtr (s : State) (n : Nat) : (s.withLength n).gdtr = s.gdtr := rfl
@[simp] theorem State.withLength_idtr (s : State) (n : Nat) : (s.withLength n).idtr = s.idtr := rfl
@[simp] theorem State.withLength_ldtr (s : State) (n : Nat) : (s.withLength n).ldtr = s.ldtr := rfl
@[simp] theorem State.withLength_taskr (s : State) (n : Nat) : (s.withLength n).taskr = s.taskr := rfl
@[simp] theorem State.withLength_cr0 (s : State) (n : Nat) : (s.withLength n).cr0 = s.cr0 := rfl
@[simp] theorem State.withLength_cr2 (s : State) (n : Nat) : (s.withLength n).cr2 = s.cr2 := rfl
@[simp] theorem State.withLength_cr3 (s : State) (n : Nat) : (s.withLength n).cr3 = s.cr3 := rfl
@[simp] theorem State.withLength_dr0 (s : State) (n : Nat) : (s.withLength n).dr0 = s.dr0 := rfl
@[simp] theorem State.withLength_dr1 (s : State) (n : Nat) : (s.withLength n).dr1 = s.dr1 := rfl
@[simp] theorem State.withLength_dr2 (s : State) (n : Nat) : (s.withLength n).dr2 = s.dr2 := rfl
@[simp] theorem State.withLength_dr3 (s : State) (n : Nat) : (s.withLength n).dr3 = s.dr3 := rfl
@[simp] theorem State.withLength_dr6 (s : State) (n : Nat) : (s.withLength n).dr6 = s.dr6 := rfl
@[simp] theorem State.withLength_dr7 (s : State) (n : Nat) : (s.withLength n).dr7 = s.dr7 := rfl
@[simp] theorem State.withLength_cpl (s : State) (n : Nat) : (s.withLength n).cpl = s.cpl := rfl
@[simp] theorem State.withLength_inhibit (s : State) (n : Nat) : (s.withLength n).inhibit = s.inhibit := rfl
@[simp] theorem State.withLength_busyPin (s : State) (n : Nat) : (s.withLength n).busyPin = s.busyPin := rfl
@[simp] theorem State.withLength_errorPin (s : State) (n : Nat) : (s.withLength n).errorPin = s.errorPin := rfl
@[simp] theorem State.withLength_intrPending (s : State) (n : Nat) : (s.withLength n).intrPending = s.intrPending := rfl
@[simp] theorem State.withLength_nmiPending (s : State) (n : Nat) : (s.withLength n).nmiPending = s.nmiPending := rfl
@[simp] theorem State.withLength_mem (s : State) (n : Nat) : (s.withLength n).mem = s.mem := rfl
@[simp] theorem State.withLength_stored (s : State) (n : Nat) : (s.withLength n).stored = s.stored := rfl
@[simp] theorem State.withLength_ioOut (s : State) (n : Nat) : (s.withLength n).ioOut = s.ioOut := rfl
@[simp] theorem State.withLength_ctx (s : State) (n : Nat) : (s.withLength n).ctx = { s.ctx with len := s.ctx.len + n } := rfl
@[simp] theorem State.withLength_draws (s : State) (n : Nat) : (s.withLength n).draws = s.draws := rfl

/-! ### fresh -/

@[simp] theorem State.fresh_cfg (s : State) : (s.fresh).cfg = s.cfg := rfl
@[simp] theorem State.fresh_regs (s : State) : (s.fresh).regs = s.regs := rfl
@[simp] theorem State.fresh_eip (s : State) : (s.fresh).eip = s.eip := rfl
@[simp] theorem State.fresh_eipCarry (s : State) : (s.fresh).eipCarry = s.eipCarry := rfl
@[simp] theorem State.fresh_flags (s : State) : (s.fresh).flags = s.flags := rfl
@[simp] theorem State.fresh_segs (s : State) : (s.fresh).segs = s.segs := rfl
@[simp] theorem State.fresh_gdtr (s : State) : (s.fresh).gdtr = s.gdtr := rfl
@[simp] theorem State.fresh_idtr (s : State) : (s.fresh).idtr = s.idtr := rfl
@[simp] theorem State.fresh_ldtr (s : State) : (s.fresh).ldtr = s.ldtr := rfl
@[simp] theorem State.fresh_taskr (s : State) : (s.fresh).taskr = s.taskr := rfl
@[simp] theorem State.fresh_cr0 (s : State) : (s.fresh).cr0 = s.cr0 := rfl
@[simp] theorem State.fresh_cr2 (s : State) : (s.fresh).cr2 = s.cr2 := rfl
@[simp] theorem State.fresh_cr3 (s : State) : (s.fresh).cr3 = s.cr3 := rfl
@[simp] theorem State.fresh_dr0 (s : State) : (s.fresh).dr0 = s.dr0 := rfl
@[simp] theorem State.fresh_dr1 (s : State) : (s.fresh).dr1 = s.dr1 := rfl
@[simp] theorem State.fresh_dr2 (s : State) : (s.fresh).dr2 = s.dr2 := rfl
@[simp] theorem State.fresh_dr3 (s : State) : (s.fresh).dr3 = s.dr3 := rfl
@[simp] theorem State.fresh_dr6 (s : State) : (s.fresh).dr6 = s.dr6 := rfl
@[simp] theorem State.fresh_dr7 (s : State) : (s.fresh).dr7 = s.dr7 := rfl
@[simp] theorem State.fresh_cpl (s : State) : (s.fresh).cpl = s.cpl := rfl
@[simp] theorem State.fresh_inhibit (s : State) : (s.fresh).inhibit = s.inhibit := rfl
@[simp] theorem State.fresh_busyPin (s : State) : (s.fresh).busyPin = s.busyPin := rfl
@[simp] theorem State.fresh_errorPin (s : State) : (s.fresh).errorPin = s.errorPin := rfl
@[simp] theorem State.fresh_intrPending (s : State) : (s.fresh).intrPending = s.intrPending := rfl
@[simp] theorem State.fresh_nmiPending (s : State) : (s.fresh).nmiPending = s.nmiPending := rfl
@[simp] theorem State.fresh_mem (s : State) : (s.fresh).mem = s.mem := rfl
@[simp] theorem State.fresh_stored (s : State) : (s.fresh).stored = s.stored := rfl
@[simp] theorem State.fresh_ioOut (s : State) : (s.fresh).ioOut = s.ioOut := rfl
@[simp] theorem State.fresh_ctx (s : State) : (s.fresh).ctx = {} := rfl
@[simp] theorem State.fresh_draws (s : State) : (s.fresh).draws = s.draws := rfl

/-! ### setReg -/

@[simp] theorem State.setReg_cfg (s : State) (w : Width) (r : Reg) (v : Word) : (s.setReg w r v).cfg = s.cfg := by cases w <;> rfl
@[simp] theorem State.setReg_eip (s : State) (w : Width) (r : Reg) (v : Word) : (s.setReg w r v).eip = s.eip := by cases w <;> rfl
@[simp] theorem State.setReg_eipCarry (s : State) (w : Width) (r : Reg) (v : Word) : (s.setReg w r v).eipCarry = s.eipCarry := by cases w <;> rfl
@[simp] theorem State.setReg_flags (s : State) (w : Width) (r : Reg) (v : Word) : (s.setReg w r v).flags = s.flags := by cases w <;> rfl
@[simp] theorem State.setReg_segs (s : State) (w : Width) (r : Reg) (v : Word) : (s.setReg w r v).segs = s.segs := by cases w <;> rfl
@[simp] theorem State.setReg_gdtr (s : State) (w : Width) (r : Reg) (v : Word) : (s.setReg w r v).gdtr = s.gdtr := by cases w <;> rfl
@[simp] theorem State.setReg_idtr (s : State) (w : Width) (r : Reg) (v : Word) : (s.setReg w r v).idtr = s.idtr := by cases w <;> rfl
@[simp] theorem State.setReg_ldtr (s : State) (w : Width) (r : Reg) (v : Word) : (s.setReg w r v).ldtr = s.ldtr := by cases w <;> rfl
@[simp] theorem State.setReg_taskr (s : State) (w : Width) (r : Reg) (v : Word) : (s.setReg w r v).taskr = s.taskr := by cases w <;> rfl
@[simp] theorem State.setReg_cr0 (s : State) (w : Width) (r : Reg) (v : Word) : (s.setReg w r v).cr0 = s.cr0 := by cases w <;> rfl
@[simp] theorem State.setReg_cr2 (s : State) (w : Width) (r : Reg) (v : Word) : (s.setReg w r v).cr2 = s.cr2 := by cases w <;> rfl
@[simp] theorem State.setReg_cr3 (s : State) (w : Width) (r : Reg) (v : Word) : (s.setReg w r v).cr3 = s.cr3 := by cases w <;> rfl
@[simp] theorem State.setReg_dr0 (s : State) (w : Width) (r : Reg) (v : Word) : (s.setReg w r v).dr0 = s.dr0 := by cases w <;> rfl
@[simp] theorem State.setReg_dr1 (s : State) (w : Width) (r : Reg) (v : Word) : (s.setReg w r v).dr1 = s.dr1 := by cases w <;> rfl
@[simp] theorem State.setReg_dr2 (s : State) (w : Width) (r : Reg) (v : Word) : (s.setReg w r v).dr2 = s.dr2 := by cases w <;> rfl
@[simp] theorem State.setReg_dr3 (s : State) (w : Width) (r : Reg) (v : Word) : (s.setReg w r v).dr3 = s.dr3 := by cases w <;> rfl
@[simp] theorem State.setReg_dr6 (s : State) (w : Width) (r : Reg) (v : Word) : (s.setReg w r v).dr6 = s.dr6 := by cases w <;> rfl
@[simp] theorem State.setReg_dr7 (s : State) (w : Width) (r : Reg) (v : Word) : (s.setReg w r v).dr7 = s.dr7 := by cases w <;> rfl
@[simp] theorem State.setReg_cpl (s : State) (w : Width) (r : Reg) (v : Word) : (s.setReg w r v).cpl = s.cpl := by cases w <;> rfl
@[simp] theorem State.setReg_inhibit (s : State) (w : Width) (r : Reg) (v : Word) : (s.setReg w r v).inhibit = s.inhibit := by cases w <;> rfl
@[simp] theorem State.setReg_busyPin (s : State) (w : Width) (r : Reg) (v : Word) : (s.setReg w r v).busyPin = s.busyPin := by cases w <;> rfl
@[simp] theorem State.setReg_errorPin (s : State) (w : Width) (r : Reg) (v : Word) : (s.setReg w r v).errorPin = s.errorPin := by cases w <;> rfl
@[simp] theorem State.setReg_intrPending (s : State) (w : Width) (r : Reg) (v : Word) : (s.setReg w r v).intrPending = s.intrPending := by cases w <;> rfl
@[simp] theorem State.setReg_nmiPending (s : State) (w : Width) (r : Reg) (v : Word) : (s.setReg w r v).nmiPending = s.nmiPending := by cases w <;> rfl
@[simp] theorem State.setReg_mem (s : State) (w : Width) (r : Reg) (v : Word) : (s.setReg w r v).mem = s.mem := by cases w <;> rfl
@[simp] theorem State.setReg_stored (s : State) (w : Width) (r : Reg) (v : Word) : (s.setReg w r v).stored = s.stored := by cases w <;> rfl
@[simp] theorem State.setReg_ioOut (s : State) (w : Width) (r : Reg) (v : Word) : (s.setReg w r v).ioOut = s.ioOut := by cases w <;> rfl
@[simp] theorem State.setReg_ctx (s : State) (w : Width) (r : Reg) (v : Word) : (s.setReg w r v).ctx = s.ctx := by cases w <;> rfl
@[simp] theorem State.setReg_draws (s : State) (w : Width) (r : Reg) (v : Word) : (s.setReg w r v).draws = s.draws := by cases w <;> rfl

/-! ### setCreg -/

@[simp] theorem State.setCreg_cfg (s : State) (c : CReg) (v : Word) : (s.setCreg c v).cfg = s.cfg := by cases c <;> rfl
@[simp] theorem State.setCreg_regs (s : State) (c : CReg) (v : Word) : (s.setCreg c v).regs = s.regs := by cases c <;> rfl
@[simp] theorem State.setCreg_eip (s : State) (c : CReg) (v : Word) : (s.setCreg c v).eip = s.eip := by cases c <;> rfl
@[simp] theorem State.setCreg_eipCarry (s : State) (c : CReg) (v : Word) : (s.setCreg c v).eipCarry = s.eipCarry := by cases c <;> rfl
@[simp] theorem State.setCreg_flags (s : State) (c : CReg) (v : Word) : (s.setCreg c v).flags = s.flags := by cases c <;> rfl
@[simp] theorem State.setCreg_segs (s : State) (c : CReg) (v : Word) : (s.setCreg c v).segs = s.segs := by cases c <;> rfl
@[simp] theorem State.setCreg_gdtr (s : State) (c : CReg) (v : Word) : (s.setCreg c v).gdtr = s.gdtr := by cases c <;> rfl
@[simp] theorem State.setCreg_idtr (s : State) (c : CReg) (v : Word) : (s.setCreg c v).idtr = s.idtr := by cases c <;> rfl
@[simp] theorem State.setCreg_ldtr (s : State) (c : CReg) (v : Word) : (s.setCreg c v).ldtr = s.ldtr := by cases c <;> rfl
@[simp] theorem State.setCreg_taskr (s : State) (c : CReg) (v : Word) : (s.setCreg c v).taskr = s.taskr := by cases c <;> rfl
@[simp] theorem State.setCreg_dr0 (s : State) (c : CReg) (v : Word) : (s.setCreg c v).dr0 = s.dr0 := by cases c <;> rfl
@[simp] theorem State.setCreg_dr1 (s : State) (c : CReg) (v : Word) : (s.setCreg c v).dr1 = s.dr1 := by cases c <;> rfl
@[simp] theorem State.setCreg_dr2 (s : State) (c : CReg) (v : Word) : (s.setCreg c v).dr2 = s.dr2 := by cases c <;> rfl
@[simp] theorem State.setCreg_dr3 (s : State) (c : CReg) (v : Word) : (s.setCreg c v).dr3 = s.dr3 := by cases c <;> rfl
@[simp] theorem State.setCreg_dr6 (s : State) (c : CReg) (v : Word) : (s.setCreg c v).dr6 = s.dr6 := by cases c <;> rfl
@[simp] theorem State.setCreg_dr7 (s : State) (c : CReg) (v : Word) : (s.setCreg c v).dr7 = s.dr7 := by cases c <;> rfl
@[simp] theorem State.setCreg_inhibit (s : State) (c : CReg) (v : Word) : (s.setCreg c v).inhibit = s.inhibit := by cases c <;> rfl
@[simp] theorem State.setCreg_busyPin (s : State) (c : CReg) (v : Word) : (s.setCreg c v).busyPin = s.busyPin := by cases c <;> rfl
@[simp] theorem State.setCreg_errorPin (s : State) (c : CReg) (v : Word) : (s.setCreg c v).errorPin = s.errorPin := by cases c <;> rfl
@[simp] theorem State.setCreg_intrPending (s : State) (c : CReg) (v : Word) : (s.setCreg c v).intrPending = s.intrPending := by cases c <;> rfl
@[simp] theorem State.setCreg_nmiPending (s : State) (c : CReg) (v : Word) : (s.setCreg c v).nmiPending = s.nmiPending := by cases c <;> rfl
@[simp] theorem State.setCreg_mem (s : State) (c : CReg) (v : Word) : (s.setCreg c v).mem = s.mem := by cases c <;> rfl
@[simp] theorem State.setCreg_stored (s : State) (c : CReg) (v : Word) : (s.setCreg c v).stored = s.stored := by cases c <;> rfl
@[simp] theorem State.setCreg_ioOut (s : State) (c : CReg) (v : Word) : (s.setCreg c v).ioOut = s.ioOut := by cases c <;> rfl
@[simp] theorem State.setCreg_ctx (s : State) (c : CReg) (v : Word) : (s.setCreg c v).ctx = s.ctx := by cases c <;> rfl
@[simp] theorem State.setCreg_draws (s : State) (c : CReg) (v : Word) : (s.setCreg c v).draws = s.draws := by cases c <;> rfl

/-- A write of CR0 that sets PE in real-address mode sets CPL to 0, and no other write changes it (rules R38, R630). -/
@[simp] theorem State.setCreg_cpl (s : State) (c : CReg) (v : Word) :
    (s.setCreg c v).cpl = if c = .cr0 ∧ s.pe = false ∧ v.getLsbD 0 = true then 0 else s.cpl := by
  cases c <;> simp [State.setCreg]

/-! ### setDreg -/

@[simp] theorem State.setDreg_cfg (s : State) (d : DReg) (v : Word) : (s.setDreg d v).cfg = s.cfg := by cases d <;> rfl
@[simp] theorem State.setDreg_regs (s : State) (d : DReg) (v : Word) : (s.setDreg d v).regs = s.regs := by cases d <;> rfl
@[simp] theorem State.setDreg_eip (s : State) (d : DReg) (v : Word) : (s.setDreg d v).eip = s.eip := by cases d <;> rfl
@[simp] theorem State.setDreg_eipCarry (s : State) (d : DReg) (v : Word) : (s.setDreg d v).eipCarry = s.eipCarry := by cases d <;> rfl
@[simp] theorem State.setDreg_flags (s : State) (d : DReg) (v : Word) : (s.setDreg d v).flags = s.flags := by cases d <;> rfl
@[simp] theorem State.setDreg_segs (s : State) (d : DReg) (v : Word) : (s.setDreg d v).segs = s.segs := by cases d <;> rfl
@[simp] theorem State.setDreg_gdtr (s : State) (d : DReg) (v : Word) : (s.setDreg d v).gdtr = s.gdtr := by cases d <;> rfl
@[simp] theorem State.setDreg_idtr (s : State) (d : DReg) (v : Word) : (s.setDreg d v).idtr = s.idtr := by cases d <;> rfl
@[simp] theorem State.setDreg_ldtr (s : State) (d : DReg) (v : Word) : (s.setDreg d v).ldtr = s.ldtr := by cases d <;> rfl
@[simp] theorem State.setDreg_taskr (s : State) (d : DReg) (v : Word) : (s.setDreg d v).taskr = s.taskr := by cases d <;> rfl
@[simp] theorem State.setDreg_cr0 (s : State) (d : DReg) (v : Word) : (s.setDreg d v).cr0 = s.cr0 := by cases d <;> rfl
@[simp] theorem State.setDreg_cr2 (s : State) (d : DReg) (v : Word) : (s.setDreg d v).cr2 = s.cr2 := by cases d <;> rfl
@[simp] theorem State.setDreg_cr3 (s : State) (d : DReg) (v : Word) : (s.setDreg d v).cr3 = s.cr3 := by cases d <;> rfl
@[simp] theorem State.setDreg_cpl (s : State) (d : DReg) (v : Word) : (s.setDreg d v).cpl = s.cpl := by cases d <;> rfl
@[simp] theorem State.setDreg_inhibit (s : State) (d : DReg) (v : Word) : (s.setDreg d v).inhibit = s.inhibit := by cases d <;> rfl
@[simp] theorem State.setDreg_busyPin (s : State) (d : DReg) (v : Word) : (s.setDreg d v).busyPin = s.busyPin := by cases d <;> rfl
@[simp] theorem State.setDreg_errorPin (s : State) (d : DReg) (v : Word) : (s.setDreg d v).errorPin = s.errorPin := by cases d <;> rfl
@[simp] theorem State.setDreg_intrPending (s : State) (d : DReg) (v : Word) : (s.setDreg d v).intrPending = s.intrPending := by cases d <;> rfl
@[simp] theorem State.setDreg_nmiPending (s : State) (d : DReg) (v : Word) : (s.setDreg d v).nmiPending = s.nmiPending := by cases d <;> rfl
@[simp] theorem State.setDreg_mem (s : State) (d : DReg) (v : Word) : (s.setDreg d v).mem = s.mem := by cases d <;> rfl
@[simp] theorem State.setDreg_stored (s : State) (d : DReg) (v : Word) : (s.setDreg d v).stored = s.stored := by cases d <;> rfl
@[simp] theorem State.setDreg_ioOut (s : State) (d : DReg) (v : Word) : (s.setDreg d v).ioOut = s.ioOut := by cases d <;> rfl
@[simp] theorem State.setDreg_ctx (s : State) (d : DReg) (v : Word) : (s.setDreg d v).ctx = s.ctx := by cases d <;> rfl
@[simp] theorem State.setDreg_draws (s : State) (d : DReg) (v : Word) : (s.setDreg d v).draws = s.draws := by cases d <;> rfl

/-! ### Stores -/

/-- A store of bytes changes memory and the note of addresses stored to, and nothing else. -/
theorem State.pokes_eq (s : State) (as : List Nat) (v : Word) :
    s.pokes as v = { s with mem := (s.pokes as v).mem, stored := (s.pokes as v).stored } := by
  induction as generalizing s v with
  | nil => rfl
  | cons a as ih => rw [State.pokes, ih]; rfl

/-- A store changes memory and the note of addresses stored to, and nothing else (rule R72). -/
theorem State.store_eq (s : State) (r : SegReg) (off : Word) (n : Nat) (v : Word) :
    s.store r off n v = { s with mem := (s.store r off n v).mem, stored := (s.store r off n v).stored } :=
  s.pokes_eq _ v

@[simp] theorem State.store_cfg (s : State) (r : SegReg) (off : Word) (n : Nat) (v : Word) : (s.store r off n v).cfg = s.cfg := by rw [State.store_eq]
@[simp] theorem State.store_regs (s : State) (r : SegReg) (off : Word) (n : Nat) (v : Word) : (s.store r off n v).regs = s.regs := by rw [State.store_eq]
@[simp] theorem State.store_eip (s : State) (r : SegReg) (off : Word) (n : Nat) (v : Word) : (s.store r off n v).eip = s.eip := by rw [State.store_eq]
@[simp] theorem State.store_eipCarry (s : State) (r : SegReg) (off : Word) (n : Nat) (v : Word) : (s.store r off n v).eipCarry = s.eipCarry := by rw [State.store_eq]
@[simp] theorem State.store_flags (s : State) (r : SegReg) (off : Word) (n : Nat) (v : Word) : (s.store r off n v).flags = s.flags := by rw [State.store_eq]
@[simp] theorem State.store_segs (s : State) (r : SegReg) (off : Word) (n : Nat) (v : Word) : (s.store r off n v).segs = s.segs := by rw [State.store_eq]
@[simp] theorem State.store_gdtr (s : State) (r : SegReg) (off : Word) (n : Nat) (v : Word) : (s.store r off n v).gdtr = s.gdtr := by rw [State.store_eq]
@[simp] theorem State.store_idtr (s : State) (r : SegReg) (off : Word) (n : Nat) (v : Word) : (s.store r off n v).idtr = s.idtr := by rw [State.store_eq]
@[simp] theorem State.store_ldtr (s : State) (r : SegReg) (off : Word) (n : Nat) (v : Word) : (s.store r off n v).ldtr = s.ldtr := by rw [State.store_eq]
@[simp] theorem State.store_taskr (s : State) (r : SegReg) (off : Word) (n : Nat) (v : Word) : (s.store r off n v).taskr = s.taskr := by rw [State.store_eq]
@[simp] theorem State.store_cr0 (s : State) (r : SegReg) (off : Word) (n : Nat) (v : Word) : (s.store r off n v).cr0 = s.cr0 := by rw [State.store_eq]
@[simp] theorem State.store_cr2 (s : State) (r : SegReg) (off : Word) (n : Nat) (v : Word) : (s.store r off n v).cr2 = s.cr2 := by rw [State.store_eq]
@[simp] theorem State.store_cr3 (s : State) (r : SegReg) (off : Word) (n : Nat) (v : Word) : (s.store r off n v).cr3 = s.cr3 := by rw [State.store_eq]
@[simp] theorem State.store_dr0 (s : State) (r : SegReg) (off : Word) (n : Nat) (v : Word) : (s.store r off n v).dr0 = s.dr0 := by rw [State.store_eq]
@[simp] theorem State.store_dr1 (s : State) (r : SegReg) (off : Word) (n : Nat) (v : Word) : (s.store r off n v).dr1 = s.dr1 := by rw [State.store_eq]
@[simp] theorem State.store_dr2 (s : State) (r : SegReg) (off : Word) (n : Nat) (v : Word) : (s.store r off n v).dr2 = s.dr2 := by rw [State.store_eq]
@[simp] theorem State.store_dr3 (s : State) (r : SegReg) (off : Word) (n : Nat) (v : Word) : (s.store r off n v).dr3 = s.dr3 := by rw [State.store_eq]
@[simp] theorem State.store_dr6 (s : State) (r : SegReg) (off : Word) (n : Nat) (v : Word) : (s.store r off n v).dr6 = s.dr6 := by rw [State.store_eq]
@[simp] theorem State.store_dr7 (s : State) (r : SegReg) (off : Word) (n : Nat) (v : Word) : (s.store r off n v).dr7 = s.dr7 := by rw [State.store_eq]
@[simp] theorem State.store_cpl (s : State) (r : SegReg) (off : Word) (n : Nat) (v : Word) : (s.store r off n v).cpl = s.cpl := by rw [State.store_eq]
@[simp] theorem State.store_inhibit (s : State) (r : SegReg) (off : Word) (n : Nat) (v : Word) : (s.store r off n v).inhibit = s.inhibit := by rw [State.store_eq]
@[simp] theorem State.store_busyPin (s : State) (r : SegReg) (off : Word) (n : Nat) (v : Word) : (s.store r off n v).busyPin = s.busyPin := by rw [State.store_eq]
@[simp] theorem State.store_errorPin (s : State) (r : SegReg) (off : Word) (n : Nat) (v : Word) : (s.store r off n v).errorPin = s.errorPin := by rw [State.store_eq]
@[simp] theorem State.store_intrPending (s : State) (r : SegReg) (off : Word) (n : Nat) (v : Word) : (s.store r off n v).intrPending = s.intrPending := by rw [State.store_eq]
@[simp] theorem State.store_nmiPending (s : State) (r : SegReg) (off : Word) (n : Nat) (v : Word) : (s.store r off n v).nmiPending = s.nmiPending := by rw [State.store_eq]
@[simp] theorem State.store_ioOut (s : State) (r : SegReg) (off : Word) (n : Nat) (v : Word) : (s.store r off n v).ioOut = s.ioOut := by rw [State.store_eq]
@[simp] theorem State.store_ctx (s : State) (r : SegReg) (off : Word) (n : Nat) (v : Word) : (s.store r off n v).ctx = s.ctx := by rw [State.store_eq]
@[simp] theorem State.store_draws (s : State) (r : SegReg) (off : Word) (n : Nat) (v : Word) : (s.store r off n v).draws = s.draws := by rw [State.store_eq]

/-! ### A written operand -/

@[simp] theorem State.writeAt_cfg (s : State) (w : Width) (p : Place) (v : Word) : (s.writeAt w p v).cfg = s.cfg := by cases p <;> simp [State.writeAt]
@[simp] theorem State.writeAt_eip (s : State) (w : Width) (p : Place) (v : Word) : (s.writeAt w p v).eip = s.eip := by cases p <;> simp [State.writeAt]
@[simp] theorem State.writeAt_eipCarry (s : State) (w : Width) (p : Place) (v : Word) : (s.writeAt w p v).eipCarry = s.eipCarry := by cases p <;> simp [State.writeAt]
@[simp] theorem State.writeAt_flags (s : State) (w : Width) (p : Place) (v : Word) : (s.writeAt w p v).flags = s.flags := by cases p <;> simp [State.writeAt]
@[simp] theorem State.writeAt_segs (s : State) (w : Width) (p : Place) (v : Word) : (s.writeAt w p v).segs = s.segs := by cases p <;> simp [State.writeAt]
@[simp] theorem State.writeAt_gdtr (s : State) (w : Width) (p : Place) (v : Word) : (s.writeAt w p v).gdtr = s.gdtr := by cases p <;> simp [State.writeAt]
@[simp] theorem State.writeAt_idtr (s : State) (w : Width) (p : Place) (v : Word) : (s.writeAt w p v).idtr = s.idtr := by cases p <;> simp [State.writeAt]
@[simp] theorem State.writeAt_ldtr (s : State) (w : Width) (p : Place) (v : Word) : (s.writeAt w p v).ldtr = s.ldtr := by cases p <;> simp [State.writeAt]
@[simp] theorem State.writeAt_taskr (s : State) (w : Width) (p : Place) (v : Word) : (s.writeAt w p v).taskr = s.taskr := by cases p <;> simp [State.writeAt]
@[simp] theorem State.writeAt_cr0 (s : State) (w : Width) (p : Place) (v : Word) : (s.writeAt w p v).cr0 = s.cr0 := by cases p <;> simp [State.writeAt]
@[simp] theorem State.writeAt_cr2 (s : State) (w : Width) (p : Place) (v : Word) : (s.writeAt w p v).cr2 = s.cr2 := by cases p <;> simp [State.writeAt]
@[simp] theorem State.writeAt_cr3 (s : State) (w : Width) (p : Place) (v : Word) : (s.writeAt w p v).cr3 = s.cr3 := by cases p <;> simp [State.writeAt]
@[simp] theorem State.writeAt_dr0 (s : State) (w : Width) (p : Place) (v : Word) : (s.writeAt w p v).dr0 = s.dr0 := by cases p <;> simp [State.writeAt]
@[simp] theorem State.writeAt_dr1 (s : State) (w : Width) (p : Place) (v : Word) : (s.writeAt w p v).dr1 = s.dr1 := by cases p <;> simp [State.writeAt]
@[simp] theorem State.writeAt_dr2 (s : State) (w : Width) (p : Place) (v : Word) : (s.writeAt w p v).dr2 = s.dr2 := by cases p <;> simp [State.writeAt]
@[simp] theorem State.writeAt_dr3 (s : State) (w : Width) (p : Place) (v : Word) : (s.writeAt w p v).dr3 = s.dr3 := by cases p <;> simp [State.writeAt]
@[simp] theorem State.writeAt_dr6 (s : State) (w : Width) (p : Place) (v : Word) : (s.writeAt w p v).dr6 = s.dr6 := by cases p <;> simp [State.writeAt]
@[simp] theorem State.writeAt_dr7 (s : State) (w : Width) (p : Place) (v : Word) : (s.writeAt w p v).dr7 = s.dr7 := by cases p <;> simp [State.writeAt]
@[simp] theorem State.writeAt_cpl (s : State) (w : Width) (p : Place) (v : Word) : (s.writeAt w p v).cpl = s.cpl := by cases p <;> simp [State.writeAt]
@[simp] theorem State.writeAt_inhibit (s : State) (w : Width) (p : Place) (v : Word) : (s.writeAt w p v).inhibit = s.inhibit := by cases p <;> simp [State.writeAt]
@[simp] theorem State.writeAt_busyPin (s : State) (w : Width) (p : Place) (v : Word) : (s.writeAt w p v).busyPin = s.busyPin := by cases p <;> simp [State.writeAt]
@[simp] theorem State.writeAt_errorPin (s : State) (w : Width) (p : Place) (v : Word) : (s.writeAt w p v).errorPin = s.errorPin := by cases p <;> simp [State.writeAt]
@[simp] theorem State.writeAt_intrPending (s : State) (w : Width) (p : Place) (v : Word) : (s.writeAt w p v).intrPending = s.intrPending := by cases p <;> simp [State.writeAt]
@[simp] theorem State.writeAt_nmiPending (s : State) (w : Width) (p : Place) (v : Word) : (s.writeAt w p v).nmiPending = s.nmiPending := by cases p <;> simp [State.writeAt]
@[simp] theorem State.writeAt_ioOut (s : State) (w : Width) (p : Place) (v : Word) : (s.writeAt w p v).ioOut = s.ioOut := by cases p <;> simp [State.writeAt]
@[simp] theorem State.writeAt_ctx (s : State) (w : Width) (p : Place) (v : Word) : (s.writeAt w p v).ctx = s.ctx := by cases p <;> simp [State.writeAt]
@[simp] theorem State.writeAt_draws (s : State) (w : Width) (p : Place) (v : Word) : (s.writeAt w p v).draws = s.draws := by cases p <;> simp [State.writeAt]

/-! ### The register file and the segment registers -/

/-- Reading the register written gives the value written. -/
@[simp] theorem GRegs.get_set_same (g : GRegs) (r : Reg) (v : Word) : (g.set r v).get r = v := by cases r <;> rfl

/-- Reading another register gives what it held. -/
theorem GRegs.get_set_other (g : GRegs) (r q : Reg) (v : Word) (h : q ≠ r) : (g.set r v).get q = g.get q := by
  cases r <;> cases q <;> first | rfl | exact absurd rfl h

/-- Reading the segment register written gives the value written. -/
@[simp] theorem Segments.get_set_same (g : Segments) (r : SegReg) (x : Segment) : (g.set r x).get r = x := by
  cases r <;> rfl

/-- Reading another segment register gives what it held. -/
theorem Segments.get_set_other (g : Segments) (r q : SegReg) (x : Segment) (h : q ≠ r) :
    (g.set r x).get q = g.get q := by
  cases r <;> cases q <;> first | rfl | exact absurd rfl h

@[simp] theorem State.seg_setSeg_same (s : State) (r : SegReg) (x : Segment) : (s.setSeg r x).seg r = x := by
  simp [State.seg]

theorem State.seg_setSeg_other (s : State) (r q : SegReg) (x : Segment) (h : q ≠ r) :
    (s.setSeg r x).seg q = s.seg q := by
  simp [State.seg, Segments.get_set_other _ _ _ _ h]

/-- A register write of any width keeps every register but the one it lives in (rules R21, R22). -/
theorem State.setReg_keeps (s : State) (w : Width) (r q : Reg) (v : Word)
    (h : q ≠ (match w with | .b8 => (byteHome r).1 | _ => r)) : (s.setReg w r v).regs.get q = s.regs.get q := by
  cases w <;> exact GRegs.get_set_other _ _ _ _ h

/-- A 32-bit write replaces the register (rule R22). -/
@[simp] theorem State.get_setReg_d32 (s : State) (r : Reg) (v : Word) : (s.setReg .d32 r v).regs.get r = v := by
  simp [State.setReg]

/-- A 16-bit write replaces bits 15:0 (rule R22). -/
@[simp] theorem State.get_setReg_w16 (s : State) (r : Reg) (v : Word) :
    (s.setReg .w16 r v).regs.get r = mergeLow16 (s.regs.get r) v := by
  simp [State.setReg]

/-! ### The mode and the sizes depend on few fields -/

/-- The mode is a function of CR0 and the flags (rule R8). -/
theorem State.mode_congr {s t : State} (h : t.cr0 = s.cr0) (f : t.flags.vm = s.flags.vm) : t.mode = s.mode := by
  simp [State.mode, State.pe, h, f]

@[simp] theorem State.mode_setReg (s : State) (w : Width) (r : Reg) (v : Word) : (s.setReg w r v).mode = s.mode :=
  State.mode_congr (by simp) (by simp)

@[simp] theorem State.mode_store (s : State) (r : SegReg) (off : Word) (n : Nat) (v : Word) :
    (s.store r off n v).mode = s.mode :=
  State.mode_congr (by simp) (by simp)

@[simp] theorem State.mode_setSeg (s : State) (r : SegReg) (x : Segment) : (s.setSeg r x).mode = s.mode := rfl

@[simp] theorem State.mode_drawn (s : State) : s.drawn.mode = s.mode := rfl

/-- The width of the stack pointer is a function of the mode and SS (rule R37). -/
theorem State.stackWidth_congr {s t : State} (h : t.mode = s.mode) (g : t.segs = s.segs) :
    t.stackWidth = s.stackWidth := by
  simp [State.stackWidth, h, g]

/-- The addresses of an operand are a function of the segment registers and the parameters (rules R71, R72). -/
theorem State.addrs_congr {s t : State} (h : t.segs = s.segs) (g : t.cfg = s.cfg) (r : SegReg) (off : Word) (n : Nat) :
    t.addrs r off n = s.addrs r off n := by
  unfold State.addrs
  congr 1
  funext i
  simp [State.byteAddr, State.phys, State.seg, h, g]

end Sys2Proof.Machine
end

