-- ==== Sys2Proof/Laws/Memory.lean ====
section
/-! SUPPORT. Memory: every operation keeps the canonical form; a read gives the byte last written; a write leaves every
other byte alone (rules R71, R72). -/

namespace Sys2Proof.Machine

/-! ### One byte -/

/-- Memory with nothing listed has the canonical form. -/
theorem Memory.wf_nil : Memory.wf [] := by simp [Memory.wf]

/-- The tail of a memory in canonical form is in canonical form. -/
theorem Memory.wf_tail {c : Host.Cell} {m : Memory} (h : Memory.wf (c :: m)) : Memory.wf m :=
  ⟨(List.pairwise_cons.mp h.1).2, fun x hx => h.2 x (List.mem_cons_of_mem _ hx)⟩

/-- A write lists no address that is neither listed before nor the one written. -/
theorem Memory.mem_write {m : Memory} {a : Nat} {b : Byte} {c : Host.Cell} (h : c ∈ m.write a b) :
    c ∈ m ∨ (c.1 = a ∧ c.2 = b ∧ b ≠ unlistedByte) := by
  induction m with
  | nil =>
    simp only [Memory.write, consCell] at h
    split at h
    · simp at h
    · simp at h; subst h; exact .inr ⟨rfl, rfl, ‹_›⟩
  | cons x m ih =>
    obtain ⟨y, v⟩ := x
    simp only [Memory.write, consCell] at h
    split at h
    · split at h
      · exact .inl h
      · rcases List.mem_cons.mp h with h | h
        · subst h; exact .inr ⟨rfl, rfl, ‹_›⟩
        · exact .inl h
    · split at h
      · split at h
        · exact .inl (List.mem_cons_of_mem _ h)
        · rcases List.mem_cons.mp h with h | h
          · subst h; exact .inr ⟨rfl, rfl, ‹_›⟩
          · exact .inl (List.mem_cons_of_mem _ h)
      · rcases List.mem_cons.mp h with h | h
        · subst h; exact .inl List.mem_cons_self
        · rcases ih h with h | h
          · exact .inl (List.mem_cons_of_mem _ h)
          · exact .inr h

/-- A write keeps the canonical form. -/
theorem Memory.wf_write {m : Memory} (h : m.wf) (a : Nat) (b : Byte) : (m.write a b).wf := by
  refine ⟨?_, fun c hc => ?_⟩
  · induction m with
    | nil => simp only [Memory.write, consCell]; split <;> simp
    | cons x m ih =>
      obtain ⟨y, v⟩ := x
      have ht := List.pairwise_cons.mp h.1
      simp only [Memory.write, consCell]
      split
      · rename_i lt
        split
        · exact h.1
        · refine List.pairwise_cons.mpr ⟨fun c hc => ?_, h.1⟩
          rcases List.mem_cons.mp hc with hc | hc
          · subst hc; exact lt
          · exact Nat.lt_trans lt (ht.1 c hc)
      · split
        · rename_i eq
          subst eq
          split
          · exact ht.2
          · exact List.pairwise_cons.mpr ⟨ht.1, ht.2⟩
        · refine List.pairwise_cons.mpr ⟨fun c hc => ?_, ih (Memory.wf_tail h)⟩
          rcases Memory.mem_write hc with hc | hc
          · exact ht.1 c hc
          · show y < c.1; omega
  · rcases Memory.mem_write hc with hc | hc
    · exact h.2 c hc
    · rw [hc.2.1]; exact hc.2.2

/-- An address below every listed one reads as an unlisted address. -/
theorem Memory.read_below {m : Memory} {a : Nat} (h : ∀ c ∈ m, a < c.1) : m.read a = unlistedByte := by
  induction m with
  | nil => rfl
  | cons x m ih =>
    obtain ⟨y, v⟩ := x
    have := h (y, v) List.mem_cons_self
    simp only [Memory.read]
    rw [if_neg (by simp at this; omega)]
    exact ih fun c hc => h c (List.mem_cons_of_mem _ hc)

/-- Reading a cell put in front of higher addresses. -/
theorem Memory.read_consCell {m : Memory} {a x : Nat} {b : Byte} (h : ∀ c ∈ m, a < c.1) :
    Memory.read (consCell a b m) x = if x = a then b else m.read x := by
  unfold consCell
  by_cases hb : b = unlistedByte
  · rw [if_pos hb]
    by_cases hx : x = a
    · rw [if_pos hx, hx, hb]; exact Memory.read_below h
    · rw [if_neg hx]
  · rw [if_neg hb]
    simp only [Memory.read]
    by_cases hx : x = a
    · simp [hx]
    · rw [if_neg (fun e => hx e.symm), if_neg hx]

/-- After a write, the address written reads as the byte written and every other address as before. -/
theorem Memory.read_write {m : Memory} (h : m.wf) (a x : Nat) (b : Byte) :
    (m.write a b).read x = if x = a then b else m.read x := by
  induction m with
  | nil => simp only [Memory.write]; exact Memory.read_consCell (by simp)
  | cons c m ih =>
    obtain ⟨y, v⟩ := c
    have ht := List.pairwise_cons.mp h.1
    simp only [Memory.write]
    split
    · rename_i lt
      exact Memory.read_consCell fun c hc => by
        rcases List.mem_cons.mp hc with hc | hc
        · subst hc; exact lt
        · exact Nat.lt_trans lt (ht.1 c hc)
    · split
      · rename_i eq
        subst eq
        rw [Memory.read_consCell (m := m) ht.1]
        by_cases hx : x = y
        · simp [hx]
        · simp [hx, Memory.read, Ne.symm hx]
      · rename_i ne
        simp only [Memory.read]
        rw [ih (Memory.wf_tail h)]
        by_cases hx : y = x
        · subst hx; simp [ne]
        · simp [hx]

/-- Reading the address written gives the byte written. -/
theorem Memory.read_write_same {m : Memory} (h : m.wf) (a : Nat) (b : Byte) : (m.write a b).read a = b := by
  rw [Memory.read_write h, if_pos rfl]

/-- Reading past a cell of another address, listed or not. -/
theorem Memory.read_consCell_other {m : Memory} {a x : Nat} (b : Byte) (ne : x ≠ a) :
    Memory.read (consCell a b m) x = m.read x := by
  unfold consCell
  split
  · rfl
  · simp [Memory.read, Ne.symm ne]

/-- A write leaves every other address as it was, whatever form the memory has. -/
theorem Memory.read_write_other (m : Memory) {a x : Nat} (b : Byte) (ne : x ≠ a) : (m.write a b).read x = m.read x := by
  induction m with
  | nil => exact Memory.read_consCell_other b ne
  | cons c m ih =>
    obtain ⟨y, v⟩ := c
    simp only [Memory.write]
    split
    · exact Memory.read_consCell_other b ne
    · split
      · rename_i eq
        subst eq
        rw [Memory.read_consCell_other b ne]
        simp [Memory.read, Ne.symm ne]
      · simp only [Memory.read, ih]

/-! ### Several bytes -/

/-- A store of a byte keeps the canonical form. -/
theorem State.poke_wf {s : State} (h : s.mem.wf) (a : Nat) (b : Byte) : (s.poke a b).mem.wf := by
  rw [State.poke_mem]
  split
  · exact h
  · exact Memory.wf_write h a b

/-- A store of a byte leaves every other address as it was. -/
theorem State.poke_read_other (s : State) {a x : Nat} (b : Byte) (ne : x ≠ a) :
    (s.poke a b).mem.read x = s.mem.read x := by
  rw [State.poke_mem]
  split
  · rfl
  · exact Memory.read_write_other _ b ne

/-- A store of a byte: the address stored to reads as the byte, but for ROM, and every other address as before
(rules R72, R79). -/
theorem State.poke_read {s : State} (h : s.mem.wf) (a x : Nat) (b : Byte) :
    (s.poke a b).mem.read x = if x = a ∧ s.isRom a = false then b else s.mem.read x := by
  rw [State.poke_mem]
  cases s.isRom a <;> simp [Memory.read_write h]

/-- A store of bytes keeps the canonical form. -/
theorem State.pokes_wf {s : State} (h : s.mem.wf) (as : List Nat) (v : Word) : (s.pokes as v).mem.wf := by
  induction as generalizing s v with
  | nil => exact h
  | cons a as ih => exact ih (State.poke_wf h _ _) _

/-- A store keeps the canonical form. -/
theorem State.store_wf {s : State} (h : s.mem.wf) (r : SegReg) (off : Word) (n : Nat) (v : Word) :
    (s.store r off n v).mem.wf :=
  State.pokes_wf h _ _

/-- A store of bytes leaves every address not stored to as it was. -/
theorem State.pokes_read_other (s : State) {as : List Nat} {x : Nat} (v : Word) (ne : x ∉ as) :
    (s.pokes as v).mem.read x = s.mem.read x := by
  induction as generalizing s v with
  | nil => rfl
  | cons a as ih =>
    rw [List.mem_cons, not_or] at ne
    rw [State.pokes, ih _ _ ne.2]
    exact s.poke_read_other _ ne.1

/-- A store leaves every address outside its bytes as it was (rule R72). -/
theorem State.store_read_other (s : State) {r : SegReg} {off : Word} {n : Nat} {x : Nat} (v : Word)
    (ne : x ∉ s.addrs r off n) : (s.store r off n v).mem.read x = s.mem.read x :=
  s.pokes_read_other v ne

/-- A written operand keeps the canonical form. -/
theorem State.writeAt_wf {s : State} (h : s.mem.wf) (w : Width) (p : Place) (v : Word) : (s.writeAt w p v).mem.wf := by
  cases p with
  | reg r => simpa [State.writeAt] using h
  | mem g off => exact State.store_wf h _ _ _ _

/-- Placed bytes keep the canonical form. -/
theorem writeBytes_wf {m : Memory} (h : m.wf) (as : List Nat) (bs : List Byte) : (writeBytes m as bs).wf := by
  induction as generalizing m bs with
  | nil => cases bs <;> exact h
  | cons a as ih =>
    cases bs with
    | nil => exact h
    | cons b bs => exact ih (Memory.wf_write h _ _) _

end Sys2Proof.Machine
end

