-- ==== Sys2Proof/Laws/Ops.lean ====
section
/-! SUPPORT. For each shared operation, one lemma that says once everything it can do when it does not stop, and
for the checks where they stop. -/

namespace Sys2Proof.Machine

/-! ### Computations that can stop -/

/-- A computation followed by another succeeds when both do. -/
theorem bind_eq_ok {α β : Type} {x : M α} {f : α → M β} {b : β} : (x >>= f) = .ok b ↔ ∃ a, x = .ok a ∧ f a = .ok b := by
  cases x with
  | error e => simp [bind, Except.bind]
  | ok a => simp [bind, Except.bind]

/-- A check followed by another computation succeeds when both do. -/
theorem check_eq_ok {β : Type} {x : M Unit} {f : M β} {b : β} :
    (x >>= fun _ => f) = .ok b ↔ x = .ok () ∧ f = .ok b := by
  rw [bind_eq_ok]
  exact ⟨fun ⟨(), h⟩ => h, fun h => ⟨(), h⟩⟩

@[simp] theorem ok_bind {α β : Type} (a : α) (f : α → M β) : ((Except.ok a : M α) >>= f) = f a := rfl

/-- A computation that stops, stops whatever would follow it. -/
@[simp] theorem error_bind {α β : Type} (e : Stop) (f : α → M β) : ((Except.error e : M α) >>= f) = .error e := rfl

/-- A check that stops, stops whatever would follow it. -/
theorem check_stops {β : Type} {x : M Unit} {f : M β} {e : Stop} (h : x = .error e) :
    (x >>= fun _ => f) = .error e := by rw [h, error_bind]

/-- A check that passes leaves what follows it. -/
theorem check_passes {β : Type} {x : M Unit} {f : M β} (h : x = .ok ()) : (x >>= fun _ => f) = f := by
  rw [h, ok_bind]

@[simp] theorem refuse_ne_ok {α : Type} (r : Refusal) (a : α) : (refuse r : M α) ≠ .ok a := by simp [refuse]

@[simp] theorem raise_ne_ok {α : Type} (e : Exc) (c : Option (BitVec 16)) (a : α) : (raise e c : M α) ≠ .ok a := by
  simp [raise]

@[simp] theorem raiseGP0_ne_ok {α : Type} (a : α) : (raiseGP0 : M α) ≠ .ok a := by simp [raiseGP0]

@[simp] theorem raiseGPSel_ne_ok {α : Type} (x : Half) (a : α) : (raiseGPSel x : M α) ≠ .ok a := by simp [raiseGPSel]

@[simp] theorem raiseNPSel_ne_ok {α : Type} (x : Half) (a : α) : (raiseNPSel x : M α) ≠ .ok a := by simp [raiseNPSel]

@[simp] theorem raiseUD_ne_ok {α : Type} (a : α) : (raiseUD : M α) ≠ .ok a := by simp [raiseUD]

/-- The same, for a check followed by a result. -/
theorem check_ok_eq_ok {β : Type} {x : M Unit} {a b : β} :
    (x >>= fun _ => (Except.ok a : M β)) = .ok b ↔ x = .ok () ∧ b = a := by
  rw [check_eq_ok, Except.ok.injEq, eq_comm (a := a)]

/-- A guard that stops passes exactly when its condition is false. -/
theorem guard_eq_ok {β : Type} {p : Prop} [Decidable p] {stop next : M β} {b : β} (h : stop ≠ .ok b) :
    (if p then stop else next) = .ok b ↔ ¬p ∧ next = .ok b := by
  by_cases hp : p <;> simp [hp, h]

@[simp] theorem outcome_ok (s : State) : outcome (.ok s) = .next s := rfl

/-- An instruction answers a next state when its computation does not stop. -/
theorem outcome_eq_next {x : M State} {t : State} : outcome x = .next t ↔ x = .ok t := by
  unfold outcome
  split <;> simp

/-- An instruction faults when its computation stops with that fault. -/
theorem outcome_eq_fault {x : M State} {f : Fault} : outcome x = .fault f ↔ x = .error (.fault f) := by
  unfold outcome
  split <;> simp

/-- An instruction is refused when its computation stops with that refusal. -/
theorem outcome_eq_refused {x : M State} {r : Refusal} : outcome x = .refused r ↔ x = .error (.refused r) := by
  unfold outcome
  split <;> simp

/-! ### Checks -/

@[simp] theorem State.noLock_eq_ok {s : State} : s.noLock = .ok () ↔ s.Unlocked := by
  unfold State.noLock State.Unlocked
  split <;> simp_all

@[simp] theorem State.lockMem_eq_ok {s : State} {rm : RM} : s.lockMem rm = .ok () ↔ s.LockFits rm := by
  cases rm with
  | reg r => simp [State.lockMem, State.LockFits, State.Unlocked]
  | mem m => simp [State.lockMem, State.LockFits]

/-- An access is not refused exactly when the host backs its addresses with memory (rule R79). -/
theorem State.backRefusal_eq_none {s : State} {as : List Nat} : s.backRefusal as = none ↔ s.Backed as := by
  rw [State.backRefusal, List.findSome?_eq_none_iff]
  refine forall₂_congr fun a _ => ?_
  unfold State.accessRefusal
  rcases s.backing a with _ | k
  · simp
  · cases k <;> simp

@[simp] theorem State.checkBacked_eq_ok {s : State} {as : List Nat} : s.checkBacked as = .ok () ↔ s.Backed as := by
  rw [← State.backRefusal_eq_none, State.checkBacked]
  cases s.backRefusal as <;> simp [refuse]

/-- The checks of two groups of addresses are the check of both. -/
theorem State.checkBacked_append {s : State} {as bs : List Nat} :
    s.checkBacked (as ++ bs) = (do s.checkBacked as; s.checkBacked bs) := by
  unfold State.checkBacked State.backRefusal
  rw [List.findSome?_append]
  cases as.findSome? s.accessRefusal <;> rfl

@[simp] theorem State.checkFault_eq_ok {s : State} {k : Access} {r : SegReg} {off : Word} {n : Nat} :
    s.checkFault k r off n = .ok () ↔ s.accessFault k r off n = none := by
  unfold State.checkFault
  split <;> simp_all

/-- The host's memory stops an access with its refusal only (rule R79). -/
theorem State.checkBacked_eq_error {s : State} {as : List Nat} {e : Stop} :
    s.checkBacked as = .error e ↔ ∃ why, s.backRefusal as = some why ∧ e = .refused why := by
  unfold State.checkBacked refuse
  cases s.backRefusal as <;> simp [eq_comm]

/-- Steps 1 and 2 of rule R72 stop with the fault of the access. -/
theorem State.checkFault_of_some {s : State} {k : Access} {r : SegReg} {off : Word} {n : Nat} {f : Fault}
    (h : s.accessFault k r off n = some f) : s.checkFault k r off n = .error (.fault f) := by
  simp [State.checkFault, h]

/-- An access has no fault exactly when the segment is usable, its rights allow the access, and the operand is in the
limit (rule R72). -/
theorem State.accessFault_eq_none {s : State} {k : Access} {r : SegReg} {off : Word} {n : Nat} :
    s.accessFault k r off n = none ↔
      (s.mode = .prot → nullable r = true → (s.seg r).valid = true) ∧
        (s.mode = .prot → (s.seg r).rights.allows k = true) ∧ s.inLimit r off n = true := by
  unfold State.accessFault
  cases (s.seg r).valid <;> cases (s.seg r).rights.allows k <;> cases s.inLimit r off n <;>
    by_cases m : s.mode = .prot <;> by_cases u : nullable r = true <;> simp [m, u]

/-- The checks of an access pass exactly when the access is allowed (rule R72). -/
@[simp] theorem State.checkAccess_eq_ok {s : State} {k : Access} {r : SegReg} {off : Word} {n : Nat} :
    s.checkAccess k r off n = .ok () ↔ s.MayAccess k r off n := by
  rw [State.checkAccess, check_eq_ok, State.checkFault_eq_ok, State.accessFault_eq_none, State.checkBacked_eq_ok]
  exact ⟨fun ⟨⟨h1, h2, h3⟩, h4⟩ => ⟨h1, h2, h3, h4⟩, fun h => ⟨⟨h.usable, h.allowed, h.inside⟩, h.backed⟩⟩

/-- An access that is allowed has no fault (rule R72). -/
theorem State.MayAccess.noFault {s : State} {k : Access} {r : SegReg} {off : Word} {n : Nat}
    (h : s.MayAccess k r off n) : s.accessFault k r off n = none :=
  State.accessFault_eq_none.mpr ⟨h.usable, h.allowed, h.inside⟩

/-- Steps 1 and 2 of rule R72 for an operand. -/
@[simp] theorem State.checkOperand_eq_ok {s : State} {k : Access} {w : Width} {p : Place} :
    s.checkOperand k w p = .ok () ↔ s.placeFault k w p = none := by
  cases p <;> simp [State.checkOperand, State.placeFault]

/-- Steps 1 and 2 of rule R72 for an operand stop with its fault. -/
theorem State.checkOperand_of_some {s : State} {k : Access} {w : Width} {p : Place} {f : Fault}
    (h : s.placeFault k w p = some f) : s.checkOperand k w p = .error (.fault f) := by
  cases p with
  | reg r => cases h
  | mem g off => exact State.checkFault_of_some h

/-- The check before reading an operand (rule R200). -/
@[simp] theorem State.checkRead_eq_ok {s : State} {w : Width} {p : Place} : s.checkRead w p = .ok () ↔ s.MayRead w p := by
  cases p <;> simp [State.checkRead, State.MayRead]

/-- `CheckWrite_N` (rule R200). -/
@[simp] theorem State.checkWrite_eq_ok {s : State} {w : Width} {p : Place} :
    s.checkWrite w p = .ok () ↔ s.MayWrite w p := by
  cases p <;> simp [State.checkWrite, State.MayWrite]

/-- An operand that can be read has no fault (rules R72, R200). -/
theorem State.MayRead.noFault {s : State} {w : Width} {p : Place} (h : s.MayRead w p) :
    s.placeFault .read w p = none := by
  cases p with
  | reg r => rfl
  | mem g off => exact State.MayAccess.noFault h

/-- An operand that can be written has no fault (rules R72, R200). -/
theorem State.MayWrite.noFault {s : State} {w : Width} {p : Place} (h : s.MayWrite w p) :
    s.placeFault .write w p = none := by
  cases p with
  | reg r => rfl
  | mem g off => exact State.MayAccess.noFault h

/-- The checks of two operands pass exactly when both may be accessed (rules R230, R323). -/
@[simp] theorem State.checkTwo_eq_ok {s : State} {w : Width} {src dst : Place} :
    s.checkTwo w src dst = .ok () ↔ s.MayRead w src ∧ s.MayWrite w dst := by
  rw [State.checkTwo, check_eq_ok, check_eq_ok, check_eq_ok, State.checkOperand_eq_ok, State.checkOperand_eq_ok,
    State.checkRead_eq_ok, State.checkWrite_eq_ok]
  exact ⟨fun h => h.2.2, fun h => ⟨h.1.noFault, h.2.noFault, h⟩⟩

/-- The room for an item on the stack (rule R320). -/
@[simp] theorem State.checkPushRoom_eq_ok {s : State} {k n : Nat} :
    s.checkPushRoom k n = .ok () ↔
      (s.seg .ss).rights.writable = true ∧ s.inLimit .ss (s.stackDown k) n = true := by
  unfold State.checkPushRoom
  split <;> simp_all

/-- The check of a push (rule R320). -/
@[simp] theorem State.checkPush_eq_ok {s : State} {k n : Nat} : s.checkPush k n = .ok () ↔ s.MayPush k n := by
  rw [State.checkPush, check_eq_ok, State.checkPushRoom_eq_ok, State.checkPushBacked, State.checkBacked_eq_ok]
  exact ⟨fun ⟨⟨h1, h2⟩, h3⟩ => ⟨h1, h2, h3⟩, fun h => ⟨⟨h.writable, h.inside⟩, h.backed⟩⟩

@[simp] theorem State.checkPopLimit_eq_ok {s : State} {k n : Nat} :
    s.checkPopLimit k n = .ok () ↔ s.inLimit .ss (s.stackUp k) n = true := by
  unfold State.checkPopLimit
  split <;> simp_all

/-- The check of a stack read (rule R321). -/
@[simp] theorem State.checkPop_eq_ok {s : State} {k n : Nat} : s.checkPop k n = .ok () ↔ s.MayPop k n := by
  rw [State.checkPop, check_eq_ok, State.checkPopLimit_eq_ok, State.checkAccess_eq_ok]
  exact ⟨fun h => h.2, fun h => ⟨h.inside, h⟩⟩

/-- A sequence of checks passes exactly when each of them does. -/
@[simp] theorem checkEach_eq_ok {f : Nat → M Unit} {m : Nat} : checkEach f m = .ok () ↔ ∀ j, j < m → f j = .ok () := by
  induction m with
  | zero => simp [checkEach]
  | succ m ih =>
    rw [checkEach, check_eq_ok, ih]
    exact ⟨fun ⟨h1, h2⟩ j hj => (Nat.lt_succ_iff_lt_or_eq.mp hj).elim (h1 j) (fun c => c ▸ h2),
      fun h => ⟨fun j hj => h j (by omega), h m (by omega)⟩⟩

/-- A sequence of checks that can stop in one way only stops so as soon as one of them does not pass. -/
theorem checkEach_stops {f : Nat → M Unit} {e : Stop} {m j : Nat} (h : ∀ i, i < m → f i = .ok () ∨ f i = .error e)
    (hj : j < m) (hf : f j ≠ .ok ()) : checkEach f m = .error e := by
  have only : ∀ n, n ≤ m → checkEach f n = .ok () ∨ checkEach f n = .error e := by
    intro n
    induction n with
    | zero => exact fun _ => .inl rfl
    | succ n ih =>
      intro hn
      rw [checkEach]
      rcases ih (by omega) with c | c <;> rw [c]
      · exact h n hn
      · exact .inr rfl
  exact (only m le_rfl).resolve_left fun c => hf (checkEach_eq_ok.mp c j hj)

/-- The checks of PUSHA's stores (rule R336). -/
@[simp] theorem State.checkPushes_eq_ok {s : State} {n m : Nat} :
    s.checkPushes n m = .ok () ↔ ∀ j, j < m → s.MayPush ((j + 1) * n) n := by
  rw [State.checkPushes, check_eq_ok, checkEach_eq_ok, checkEach_eq_ok]
  simp only [← State.checkPush_eq_ok, State.checkPush, check_eq_ok]
  exact ⟨fun h j hj => ⟨h.1 j hj, h.2 j hj⟩, fun h => ⟨fun j hj => (h j hj).1, fun j hj => (h j hj).2⟩⟩

/-- The checks of several stack reads (rules R337, R402). -/
@[simp] theorem State.checkPops_eq_ok {s : State} {n m : Nat} :
    s.checkPops n m = .ok () ↔ ∀ j, j < m → s.MayPop (j * n) n := by
  rw [State.checkPops, check_eq_ok, checkEach_eq_ok, checkEach_eq_ok]
  simp only [State.checkPopLimit_eq_ok, State.checkPop_eq_ok]
  exact ⟨fun h => h.2, fun h => ⟨fun j hj => (h j hj).inside, h⟩⟩

/-- The privilege check of the special registers (rule R209). -/
@[simp] theorem State.checkSpecial_eq_ok {s : State} : s.checkSpecial = .ok () ↔ s.Privileged := by
  unfold State.checkSpecial State.Privileged
  split <;> simp_all

@[simp] theorem State.protectedOnly_eq_ok {s : State} : s.protectedOnly = .ok () ↔ s.mode = .prot := by
  unfold State.protectedOnly
  split <;> simp_all

/-- The checks of SGDT and SIDT (rules R460, R461). -/
@[simp] theorem State.checkTableStore_eq_ok {s : State} {g : SegReg} {off : Word} :
    s.checkTableStore g off = .ok () ↔ s.MayStoreTable g off := by
  rw [State.checkTableStore, check_eq_ok, check_eq_ok, State.checkFault_eq_ok, State.checkAccess_eq_ok,
    State.checkAccess_eq_ok]
  exact ⟨fun c => ⟨c.1, c.2.1, c.2.2⟩, fun c => ⟨c.whole, c.limit, c.base⟩⟩

/-- An access stops exactly with its fault, or with the refusal of an address the host does not back with memory
(rules R72, R79). -/
theorem State.checkAccess_eq_error {s : State} {k : Access} {r : SegReg} {off : Word} {n : Nat} {e : Stop} :
    s.checkAccess k r off n = .error e ↔
      (∃ f, s.accessFault k r off n = some f ∧ e = .fault f) ∨
        (s.accessFault k r off n = none ∧ ∃ why, s.backRefusal (s.addrs r off n) = some why ∧ e = .refused why) := by
  unfold State.checkAccess State.checkFault
  cases h : s.accessFault k r off n with
  | some f => simp [eq_comm]
  | none =>
    rw [ok_bind, State.checkBacked_eq_error]
    simp

/-! ### Memory and the stack -/

/-- `MemRead` (rule R72). -/
theorem State.memRead_eq_ok {s : State} {r : SegReg} {off : Word} {n : Nat} {v : Word} :
    s.memRead r off n = .ok v ↔ s.MayAccess .read r off n ∧ v = s.load r off n := by
  rw [State.memRead, check_ok_eq_ok, State.checkAccess_eq_ok]

/-- `MemWrite` (rule R72). -/
theorem State.memWrite_eq_ok {s t : State} {r : SegReg} {off : Word} {n : Nat} {v : Word} :
    s.memWrite r off n v = .ok t ↔ s.MayAccess .write r off n ∧ t = s.store r off n v := by
  rw [State.memWrite, check_ok_eq_ok, State.checkAccess_eq_ok]

/-- `Push_N` (rule R320). -/
theorem State.push_eq_ok {s t : State} {n : Nat} {v : Word} :
    s.push n v = .ok t ↔ s.MayPush n n ∧ t = s.pushed n v := by
  rw [State.push, check_ok_eq_ok, State.checkPush_eq_ok]

/-- `ReadOp_N` (rule R200). -/
theorem State.readRM_eq_ok {s : State} {w : Width} {rm : RM} {v : Word} :
    s.readRM w rm = .ok v ↔ s.MayRead w (s.place rm) ∧ v = s.readAt w (s.place rm) := by
  rw [State.readRM, check_ok_eq_ok, State.checkRead_eq_ok]

/-- `WriteOp_N`, ending the instruction (rule R200). -/
theorem State.writeRM_eq_ok {s t : State} {w : Width} {rm : RM} {v : Word} :
    s.writeRM w rm v = .ok t ↔ s.MayWrite w (s.place rm) ∧ t = (s.writeAt w (s.place rm) v).retire := by
  rw [State.writeRM, check_ok_eq_ok, State.checkWrite_eq_ok]

/-! ### Operand forms -/

/-- An r/m operand read, changed and written back (rules R78, R261). -/
theorem State.modifyRM_eq_ok {s t : State} {w : Width} {rm : RM} {f : Word → State → Word × State} :
    s.modifyRM w rm f = .ok t ↔
      s.MayWrite w (s.place rm) ∧
        t = ((f (s.readAt w (s.place rm)) s).2.writeAt w (s.place rm) (f (s.readAt w (s.place rm)) s).1).retire := by
  rw [State.modifyRM, check_ok_eq_ok, State.checkWrite_eq_ok]

/-- The form r/m, register (rule R261). -/
theorem State.rmReg_eq_ok {s t : State} {f : Binary} {w : Width} {rm : RM} {r : Reg} :
    s.rmReg f w rm r = .ok t ↔
      s.LockFits rm ∧ s.MayWrite w (s.place rm) ∧
        t = ((f w (s.readAt w (s.place rm)) (s.reg w r) s).2.writeAt w (s.place rm)
          (f w (s.readAt w (s.place rm)) (s.reg w r) s).1).retire := by
  simp [State.rmReg, check_eq_ok, State.modifyRM_eq_ok]

/-- The form r/m, immediate (rule R261). -/
theorem State.rmImm_eq_ok {s t : State} {f : Binary} {w : Width} {rm : RM} {v : Word} :
    s.rmImm f w rm v = .ok t ↔
      s.LockFits rm ∧ s.MayWrite w (s.place rm) ∧
        t = ((f w (s.readAt w (s.place rm)) v s).2.writeAt w (s.place rm)
          (f w (s.readAt w (s.place rm)) v s).1).retire := by
  simp [State.rmImm, check_eq_ok, State.modifyRM_eq_ok]

/-- The form register, r/m (rule R261). -/
theorem State.regRm_eq_ok {s t : State} {f : Binary} {w : Width} {rm : RM} {r : Reg} :
    s.regRm f w rm r = .ok t ↔
      s.Unlocked ∧ s.MayRead w (s.place rm) ∧
        t = ((f w (s.reg w r) (s.readAt w (s.place rm)) s).2.setReg w r
          (f w (s.reg w r) (s.readAt w (s.place rm)) s).1).retire := by
  rw [State.regRm, check_eq_ok, bind_eq_ok, State.noLock_eq_ok]
  simp only [State.readRM_eq_ok, Except.ok.injEq]
  exact ⟨fun ⟨u, _, ⟨m, rfl⟩, h⟩ => ⟨u, m, h.symm⟩, fun ⟨u, m, h⟩ => ⟨u, _, ⟨m, rfl⟩, h.symm⟩⟩

/-- The form accumulator, immediate (rule R261). -/
theorem State.accImm_eq_ok {s t : State} {f : Binary} {w : Width} {v : Word} :
    s.accImm f w v = .ok t ↔
      s.Unlocked ∧ t = ((f w (s.reg w .eax) v s).2.setReg w .eax (f w (s.reg w .eax) v s).1).retire := by
  rw [State.accImm, check_ok_eq_ok, State.noLock_eq_ok]

/-- The one-operand form (rules R263, R264). -/
theorem State.rmUnary_eq_ok {s t : State} {f : Unary} {w : Width} {rm : RM} :
    s.rmUnary f w rm = .ok t ↔
      s.LockFits rm ∧ s.MayWrite w (s.place rm) ∧
        t = ((f w (s.readAt w (s.place rm)) s).2.writeAt w (s.place rm) (f w (s.readAt w (s.place rm)) s).1).retire := by
  simp [State.rmUnary, check_eq_ok, State.modifyRM_eq_ok]

/-- A shift or rotate (rule R360). -/
theorem State.shiftRM_eq_ok {s t : State} {k : Shift} {w : Width} {rm : RM} {n : Count} :
    s.shiftRM k w rm n = .ok t ↔
      s.Unlocked ∧ s.MayWrite w (s.place rm) ∧
        t = ((shiftOp k w (s.shiftCount n) (s.readAt w (s.place rm)) s).2.writeAt w (s.place rm)
          (shiftOp k w (s.shiftCount n) (s.readAt w (s.place rm)) s).1).retire := by
  simp [State.shiftRM, check_eq_ok, State.modifyRM_eq_ok]

/-- MOV r/m, value (rules R201, R204). -/
theorem State.movToRM_eq_ok {s t : State} {w : Width} {rm : RM} {v : Word} :
    s.movToRM w rm v = .ok t ↔
      s.Unlocked ∧ s.MayWrite w (s.place rm) ∧ t = (s.writeAt w (s.place rm) v).retire := by
  simp [State.movToRM, check_eq_ok, State.writeRM_eq_ok]

/-- MOV r, r/m (rules R201, R216, R217). -/
theorem State.movFromRM_eq_ok {s t : State} {src dst : Width} {rm : RM} {r : Reg} {f : Word → Word} :
    s.movFromRM src dst rm r f = .ok t ↔
      s.Unlocked ∧ s.MayRead src (s.place rm) ∧ t = (s.setReg dst r (f (s.readAt src (s.place rm)))).retire := by
  rw [State.movFromRM, check_eq_ok, bind_eq_ok, State.noLock_eq_ok]
  simp only [State.readRM_eq_ok, Except.ok.injEq]
  exact ⟨fun ⟨u, _, ⟨m, rfl⟩, h⟩ => ⟨u, m, h.symm⟩, fun ⟨u, m, h⟩ => ⟨u, _, ⟨m, rfl⟩, h.symm⟩⟩

/-! ### Control transfer, output, repetition -/

/-- The transfer to a target in the code segment (rule R404). -/
theorem State.jump_eq_ok {s t : State} {x : Word} : s.jump x = .ok t ↔ x.toNat ≤ s.codeLimit ∧ t = s.jumpTo x := by
  unfold State.jump
  split <;> simp_all [eq_comm]

/-- A relative branch (rule R519). -/
theorem State.branch_eq_ok {s t : State} {take : Bool} {rel : Word} :
    s.branch take rel = .ok t ↔
      s.Unlocked ∧ s.cfg.acceptGkBranches = true ∧
        ((take = true ∧ (s.relTarget rel).toNat ≤ s.codeLimit ∧ t = s.jumpTo (s.relTarget rel)) ∨
          (take = false ∧ t = s.retire)) := by
  unfold State.branch State.branchesOk
  rw [check_eq_ok, State.noLock_eq_ok]
  cases s.cfg.acceptGkBranches with
  | false => simp [refuse, bind, Except.bind]
  | true => cases take <;> simp [State.jump_eq_ok, eq_comm (a := t)]

/-- An output: the event, and nothing else (rule R96). -/
theorem State.ioWrite_eq_ok {s t : State} {p : Half} {w : Width} {v : Word} :
    s.ioWrite p w v = .ok t ↔
      s.checkIo p.toNat w.bytes = .ok () ∧ checkPortRange p.toNat w.bytes = .ok () ∧ t = s.emit p w v := by
  rw [State.ioWrite, check_eq_ok, check_ok_eq_ok]

/-- The port range of an output (rule R96). -/
@[simp] theorem checkPortRange_eq_ok {port n : Nat} : checkPortRange port n = .ok () ↔ port + n - 1 ≤ 0xFFFF := by
  unfold checkPortRange
  split <;> simp_all

/-- One step of a string instruction (rule R240): the whole instruction without a repeat byte, the end when the count is
zero, else one iteration. -/
theorem State.repeated_eq_ok {s t : State} {stops : RepPrefix → State → Bool} {body : State → M State} :
    s.repeated stops body = .ok t ↔
      (s.ctx.rep = none ∧ ∃ u, body s = .ok u ∧ t = u.retire) ∨
        (∃ p, s.ctx.rep = some p ∧ s.count = 0 ∧ t = s.retire) ∨
        (∃ p u, s.ctx.rep = some p ∧ s.count ≠ 0 ∧ body s = .ok u ∧
          t = if u.countDown.count = 0 ∨ stops p u.countDown = true then u.countDown.retire else u.countDown.again) := by
  unfold State.repeated
  cases s.ctx.rep with
  | none => simp [bind_eq_ok, eq_comm (a := t)]
  | some p =>
    by_cases h : s.count = 0
    · simp [h, eq_comm (a := t)]
    · simp only [h, if_false, bind_eq_ok]
      constructor
      · rintro ⟨u, hu, ht⟩
        refine .inr (.inr ⟨p, u, rfl, h, hu, ?_⟩)
        split at ht <;> simp_all
      · rintro (⟨c, -⟩ | ⟨_, _, c, -⟩ | ⟨q, u, hq, -, hu, ht⟩)
        · simp at c
        · exact c.elim
        · cases hq
          refine ⟨u, hu, ?_⟩
          rw [ht]
          split <;> rfl

/-! ### Segment loads -/

/-- A load of a segment register changes that register and nothing else (rules R83 to R85). -/
theorem State.loadSS_eq_ok {s t : State} {sel : Half} (h : s.loadSS sel = .ok t) :
    ∃ d, s.descriptor sel = .ok d ∧ rplOf sel = s.cpl ∧ d.rights.writable = true ∧ d.rights.dpl = s.cpl ∧
      d.rights.present = true ∧ t = s.setSeg .ss (segmentOf sel d) := by
  unfold State.loadSS at h
  have ⟨_, h⟩ := (guard_eq_ok (by simp [bind_eq_ok])).mp h
  obtain ⟨d, hd, h⟩ := bind_eq_ok.mp h
  have ⟨h1, h⟩ := (guard_eq_ok (by simp [bind_eq_ok])).mp h
  have ⟨h2, h⟩ := (guard_eq_ok (by simp [bind_eq_ok])).mp h
  have ⟨h3, h⟩ := (guard_eq_ok (by simp [bind_eq_ok])).mp h
  have ⟨h4, h⟩ := (guard_eq_ok (by simp [bind_eq_ok])).mp h
  exact ⟨d, hd, by simpa using h1, by simpa using h2, by simpa using h3, by simpa using h4, (Except.ok.inj h).symm⟩

/-- A load of DS, ES, FS or GS in protected mode (rule R84). -/
theorem State.loadDataSeg_eq_ok {s t : State} {r : SegReg} {sel : Half} (h : s.loadDataSeg r sel = .ok t) :
    (isNull sel = true ∧ t = s.setSeg r { s.seg r with sel := sel, valid := false }) ∨
      (∃ d, s.descriptor sel = .ok d ∧ d.rights.readable = true ∧ d.dataPrivOK (rplOf sel) s.cpl = true ∧
        d.rights.present = true ∧ t = s.setSeg r (segmentOf sel d)) := by
  unfold State.loadDataSeg at h
  split at h
  · exact .inl ⟨‹_›, by simpa using h.symm⟩
  · obtain ⟨d, hd, h⟩ := bind_eq_ok.mp h
    have ⟨h1, h⟩ := (guard_eq_ok (by simp [bind_eq_ok])).mp h
    have ⟨h2, h⟩ := (guard_eq_ok (by simp [bind_eq_ok])).mp h
    have ⟨h3, h⟩ := (guard_eq_ok (by simp [bind_eq_ok])).mp h
    exact .inr ⟨d, hd, by simpa using h1, by simpa using h2, by simpa using h3, (Except.ok.inj h).symm⟩

/-- A load of any segment register answers the state with that register replaced (rules R205, R326). -/
theorem State.loadSeg_eq_ok {s t : State} {r : SegReg} {sel : Half} (h : s.loadSeg r sel = .ok t) :
    ∃ x, t = s.setSeg r x := by
  unfold State.loadSeg at h
  split at h
  · obtain ⟨d, -, -, -, -, -, h⟩ := State.loadSS_eq_ok h
    exact ⟨_, h⟩
  · rcases State.loadDataSeg_eq_ok h with ⟨-, h⟩ | ⟨d, -, -, -, -, h⟩
    · exact ⟨_, h⟩
    · exact ⟨_, h⟩
  · exact ⟨_, by simpa using h.symm⟩

/-- The validation of a data segment register keeps it or nulls it (rule R407). -/
theorem State.dropSeg_eq_ok {s t : State} {r : SegReg} (h : s.dropSeg r = .ok t) :
    t = s ∨ t = s.setSeg r { s.seg r with sel := 0, valid := false } := by
  unfold State.dropSeg at h
  split at h
  · exact .inl (by simpa using h.symm)
  · obtain ⟨d, -, h⟩ := bind_eq_ok.mp h
    dsimp only at h
    split at h
    · exact .inr (by simpa using h.symm)
    · split at h
      · exact .inl (Except.ok.inj h).symm
      · exact .inr (Except.ok.inj h).symm

/-! ### SGDT and SIDT -/

/-- SGDT or SIDT of a table register (rules R460 to R462). -/
theorem State.storeTable_eq_ok {s t : State} {x : TableReg} {rm : RM} :
    s.storeTable x rm = .ok t ↔
      s.Unlocked ∧ ∃ g off, s.place rm = .mem g off ∧ s.MayStoreTable g off ∧ t = (s.tableStored x g off).retire := by
  rw [State.storeTable, check_eq_ok, State.noLock_eq_ok]
  cases s.place rm with
  | reg r => simp
  | mem g off => simp [check_ok_eq_ok]

/-! ### Where an instruction stops -/

/-- The fault of the stack segment (rules R75, R321). -/
theorem State.segFault_ss (s : State) :
    s.segFault .ss = .exception .stackFault (if s.mode = .real then none else some 0) := by
  unfold State.segFault State.zeroCode
  cases s.mode <;> rfl

/-- The outcome of a push that fails (rule R330). -/
theorem State.pushFault_eq (s : State) :
    s.pushFault =
      if s.mode = .prot then .exception .stackFault (some 0)
      else if s.regs.esp.toNat % 2 ^ 16 ∈ [1, 3, 5] then .shutdown
      else .exception .stackFault (if s.mode = .real then none else some 0) := by
  have sp : (s.reg .w16 .esp).toNat = s.regs.esp.toNat % 2 ^ 16 := by
    simp only [State.reg, GRegs.get, BitVec.toNat_setWidth, BitVec.extractLsb'_toNat]
    omega
  unfold State.pushFault
  rw [s.segFault_ss]
  cases h : s.mode <;> simp [sp]

/-- A push without room in a writable SS (rules R320, R330). -/
theorem State.checkPushRoom_out {s : State} {k n : Nat}
    (h : (s.seg .ss).rights.writable = false ∨ s.inLimit .ss (s.stackDown k) n = false) :
    s.checkPushRoom k n = .error (.fault s.pushFault) := by
  unfold State.checkPushRoom
  rw [if_neg]
  rcases h with h | h <;> simp [h]

/-- A push without room in a writable SS (rules R320, R330). -/
theorem State.checkPush_out {s : State} {k n : Nat}
    (h : (s.seg .ss).rights.writable = false ∨ s.inLimit .ss (s.stackDown k) n = false) :
    s.checkPush k n = .error (.fault s.pushFault) := by
  rw [State.checkPush, State.checkPushRoom_out h]; rfl

/-- A stack item out of the limit (rule R321). -/
theorem State.checkPopLimit_out {s : State} {k n : Nat} (h : s.inLimit .ss (s.stackUp k) n = false) :
    s.checkPopLimit k n = .error (.fault (s.segFault .ss)) := by
  simp [State.checkPopLimit, h]

/-- A stack read out of the limit (rule R321). -/
theorem State.checkPop_out {s : State} {k n : Nat} (h : s.inLimit .ss (s.stackUp k) n = false) :
    s.checkPop k n = .error (.fault (s.segFault .ss)) := by
  rw [State.checkPop, State.checkPopLimit_out h]; rfl

/-- An instruction that stops with every stop of a push's check ends as rule R330 says. -/
theorem State.stopsWithPush_of {s : State} {i : Instr} {x : M State} {k n : Nat} (hx : exec i s = outcome x)
    (h : ∀ e, s.checkPush k n = .error e → x = .error e) : s.StopsWithPush i k n :=
  ⟨fun e he => by rw [hx, h e he], fun c => by rw [hx, h _ (State.checkPush_out c), s.pushFault_eq]; rfl⟩

/-- An instruction that stops with every stop of a stack read's check ends as rule R321 says. -/
theorem State.stopsWithPop_of {s : State} {i : Instr} {x : M State} {k n : Nat} (hx : exec i s = outcome x)
    (h : ∀ e, s.checkPop k n = .error e → x = .error e) : s.StopsWithPop i k n :=
  ⟨fun e he => by rw [hx, h e he], fun c => by rw [hx, h _ (State.checkPop_out c), s.segFault_ss]; rfl⟩

/-- Several pushes without room for one of the items: rule R330, whatever the host backs (rule R336). -/
theorem State.checkPushes_out {s : State} {n m j : Nat} (hj : j < m)
    (h : (s.seg .ss).rights.writable = false ∨ s.inLimit .ss (s.stackDown ((j + 1) * n)) n = false) :
    s.checkPushes n m = .error (.fault s.pushFault) := by
  have out : checkEach (fun j => s.checkPushRoom ((j + 1) * n) n) m = .error (.fault s.pushFault) :=
    checkEach_stops (fun i _ => by unfold State.checkPushRoom; split <;> simp) hj (by simp [State.checkPushRoom_out h])
  rw [State.checkPushes, out]
  rfl

/-- A sequence of checks of what the host backs is the check of all the addresses in order. -/
theorem State.checkEach_backed {s : State} {f : Nat → M Unit} {as : Nat → List Nat} {m : Nat}
    (h : ∀ i, i < m → f i = s.checkBacked (as i)) : checkEach f m = s.checkBacked ((List.range m).flatMap as) := by
  induction m with
  | zero => rfl
  | succ m ih =>
    rw [checkEach, ih fun i hi => h i (by omega), h m (by omega), List.range_succ, List.flatMap_append,
      State.checkBacked_append]
    simp

/-- Several pushes with room for every item, one of which the host does not back with memory (rules R79, R336). -/
theorem State.checkPushes_unbacked {s : State} {n m : Nat} {why : Refusal} (w : (s.seg .ss).rights.writable = true)
    (h : ∀ i, i < m → s.inLimit .ss (s.stackDown ((i + 1) * n)) n = true)
    (hb : s.backRefusal ((List.range m).flatMap fun j => s.addrs .ss (s.stackDown ((j + 1) * n)) n) = some why) :
    s.checkPushes n m = .error (.refused why) := by
  rw [State.checkPushes, checkEach_eq_ok.mpr fun i hi => State.checkPushRoom_eq_ok.mpr ⟨w, h i hi⟩, ok_bind,
    State.checkEach_backed (f := fun j => s.checkPushBacked ((j + 1) * n) n)
      (as := fun j => s.addrs .ss (s.stackDown ((j + 1) * n)) n) fun _ _ => rfl]
  exact State.checkBacked_eq_error.mpr ⟨why, hb, rfl⟩

/-- Several stack reads, one of them out of the limit: the fault of SS, whatever the host backs (rules R337, R402). -/
theorem State.checkPops_out {s : State} {n m j : Nat} (hj : j < m)
    (h : s.inLimit .ss (s.stackUp (j * n)) n = false) : s.checkPops n m = .error (.fault (s.segFault .ss)) := by
  have out : checkEach (fun j => s.checkPopLimit (j * n) n) m = .error (.fault (s.segFault .ss)) :=
    checkEach_stops (fun i _ => by unfold State.checkPopLimit; split <;> simp) hj (by simp [State.checkPopLimit_out h])
  rw [State.checkPops, out]
  rfl

/-- Several stack reads from an SS that cannot be read: the limits of all, then #GP(0) (rule R72). -/
theorem State.checkPops_unreadable {s : State} {n m : Nat} (h0 : 0 < m)
    (h : ∀ i, i < m → s.inLimit .ss (s.stackUp (i * n)) n = true) (hm : s.mode = .prot)
    (hr : (s.seg .ss).rights.readable = false) :
    s.checkPops n m = .error (.fault (.exception .generalProtection (some 0))) := by
  have he : ∀ j, j < m → s.checkPop (j * n) n = .error (.fault (.exception .generalProtection (some 0))) := by
    intro j hj
    rw [State.checkPop, State.checkPopLimit_eq_ok.mpr (h j hj), ok_bind, State.checkAccess_eq_error]
    exact .inl ⟨_, by simp [State.accessFault, nullable, hm, Rights.allows, hr], rfl⟩
  rw [State.checkPops, checkEach_eq_ok.mpr fun i hi => State.checkPopLimit_eq_ok.mpr (h i hi), ok_bind]
  exact checkEach_stops (fun i hi => .inr (he i hi)) h0 fun c => by rw [he 0 h0] at c; cases c

/-- An access without a fault is the check of what the host backs (rule R79). -/
theorem State.checkAccess_of_noFault {s : State} {k : Access} {r : SegReg} {off : Word} {n : Nat}
    (h : s.accessFault k r off n = none) : s.checkAccess k r off n = s.checkBacked (s.addrs r off n) := by
  rw [State.checkAccess, State.checkFault_eq_ok.mpr h, ok_bind]

/-- Several stack reads within the limit of an SS that can be read, one of which the host does not back with memory
(rules R72, R79). -/
theorem State.checkPops_unbacked {s : State} {n m : Nat} {why : Refusal}
    (h : ∀ i, i < m → s.inLimit .ss (s.stackUp (i * n)) n = true)
    (hr : s.mode = .prot → (s.seg .ss).rights.readable = true)
    (hb : s.backRefusal ((List.range m).flatMap fun j => s.addrs .ss (s.stackUp (j * n)) n) = some why) :
    s.checkPops n m = .error (.refused why) := by
  rw [State.checkPops, checkEach_eq_ok.mpr fun i hi => State.checkPopLimit_eq_ok.mpr (h i hi), ok_bind,
    State.checkEach_backed (as := fun j => s.addrs .ss (s.stackUp (j * n)) n)]
  · exact State.checkBacked_eq_error.mpr ⟨why, hb, rfl⟩
  · intro i hi
    rw [State.checkPop, State.checkPopLimit_eq_ok.mpr (h i hi), ok_bind]
    exact State.checkAccess_of_noFault
      (State.accessFault_eq_none.mpr ⟨fun _ c => by simp [nullable] at c, hr, h i hi⟩)

/-- A read operand without a fault is the check of what the host backs (rule R79). -/
theorem State.checkRead_of_noFault {s : State} {w : Width} {p : Place} (h : s.placeFault .read w p = none) :
    s.checkRead w p = s.checkBacked (s.placeAddrs w p) := by
  cases p with
  | reg r => rfl
  | mem g off => exact State.checkAccess_of_noFault h

/-- A written operand without a fault is the check of what the host backs (rule R79). -/
theorem State.checkWrite_of_noFault {s : State} {w : Width} {p : Place} (h : s.placeFault .write w p = none) :
    s.checkWrite w p = s.checkBacked (s.placeAddrs w p) := by
  cases p with
  | reg r => rfl
  | mem g off => exact State.checkAccess_of_noFault h

/-- A read and a write operand without a fault, one of them not backed with memory (rule R79). -/
theorem State.checkTwo_unbacked {s : State} {w : Width} {src dst : Place} {why : Refusal}
    (hr : s.placeFault .read w src = none) (hw : s.placeFault .write w dst = none)
    (hb : s.backRefusal (s.placeAddrs w src ++ s.placeAddrs w dst) = some why) :
    s.checkTwo w src dst = .error (.refused why) := by
  rw [State.checkTwo, State.checkOperand_eq_ok.mpr hr, State.checkOperand_eq_ok.mpr hw, ok_bind, ok_bind,
    State.checkRead_of_noFault hr, State.checkWrite_of_noFault hw, ← State.checkBacked_append]
  exact State.checkBacked_eq_error.mpr ⟨why, hb, rfl⟩

/-- An instruction that stops with every stop of the checks of two operands (rules R230, R323). -/
theorem State.stopsWithTwo_of {s : State} {i : Instr} {x : M State} {w : Width} {src dst : Place}
    (hx : exec i s = outcome x) (h : ∀ e, s.checkTwo w src dst = .error e → x = .error e) :
    s.StopsWithTwo i w src dst where
  read f hf := by
    rw [hx, h _ (by rw [State.checkTwo, State.checkOperand_of_some hf]; rfl)]
    rfl
  write hr f hf := by
    rw [hx, h _ (by rw [State.checkTwo, State.checkOperand_eq_ok.mpr hr, State.checkOperand_of_some hf]; rfl)]
    rfl
  backed hr hw why hb := by
    rw [hx, h _ (State.checkTwo_unbacked hr hw hb)]
    rfl

/-- An instruction that stops with every stop of the checks of several pushes (rule R336). -/
theorem State.stopsWithPushes_of {s : State} {i : Instr} {x : M State} {n m : Nat} (hx : exec i s = outcome x)
    (h : ∀ e, s.checkPushes n m = .error e → x = .error e) : s.StopsWithPushes i n m where
  room := fun ⟨j, hj, hc⟩ => by
    rw [hx, h _ (State.checkPushes_out hj hc), s.pushFault_eq]
    rfl
  backed hw hl why hb := by
    rw [hx, h _ (State.checkPushes_unbacked hw hl hb)]
    rfl

/-- An instruction that stops with every stop of the checks of several stack reads (rules R337, R402). -/
theorem State.stopsWithPops_of {s : State} {i : Instr} {x : M State} {n m : Nat} (hx : exec i s = outcome x)
    (h : ∀ e, s.checkPops n m = .error e → x = .error e) : s.StopsWithPops i n m where
  limit := fun ⟨j, hj, hc⟩ => by
    rw [hx, h _ (State.checkPops_out hj hc), s.segFault_ss]
    rfl
  rights h0 hl hm hr := by
    rw [hx, h _ (State.checkPops_unreadable h0 hl hm hr)]
    rfl
  backed hl hr why hb := by
    rw [hx, h _ (State.checkPops_unbacked hl hr hb)]
    rfl

/-- The null selectors are 0 to 3 (rule R81). -/
theorem isNull_iff {sel : Half} : isNull sel = true ↔ sel.toNat < 4 := by
  rw [isNull, beq_iff_eq, ← BitVec.toNat_inj]
  simp only [BitVec.extractLsb'_toNat, Nat.shiftRight_eq_div_pow]
  have := sel.isLt
  change sel.toNat / 2 ^ 2 % 2 ^ 14 = 0 ↔ sel.toNat < 4
  omega

/-- The code segment of a far return: the first test that fails, else the descriptor (rules R405, R406). -/
theorem State.returnCode_eq {s : State} {sel : Half} {level : BitVec 2} {d? : Option Descriptor} (h4 : 4 ≤ sel.toNat)
    (hd : s.readDescriptor sel = .ok d?) :
    (∀ f, returnCodeFault sel level d? = some f → s.returnCode sel level = .error (.fault f)) ∧
      ∀ d, d? = some d → returnCodeFault sel level d? = none → s.returnCode sel level = .ok d := by
  have hn : isNull sel = false := by rw [Bool.eq_false_iff, ne_eq, isNull_iff]; omega
  unfold State.returnCode State.descriptor
  rw [hn, hd]
  cases d? with
  | none => simp [returnCodeFault, raiseGPSel, raise, errSel]
  | some d =>
    obtain ⟨b, l, ⟨k, dpl, p, big⟩⟩ := d
    cases k with
    | code x c =>
      cases c <;> cases p <;>
        simp [returnCodeFault, Descriptor.isCode, Descriptor.conforming, raiseGPSel, raiseNPSel, raise, errSel] <;>
        split <;> simp_all
    | _ => simp [returnCodeFault, Descriptor.isCode, raiseGPSel, raise, errSel]

/-- The stack segment of a far return to an outer level: the first test that fails, else the descriptor (rule R406). -/
theorem State.returnStack_eq {s : State} {sel : Half} {level : BitVec 2} {d? : Option Descriptor} (h4 : 4 ≤ sel.toNat)
    (hd : s.readDescriptor sel = .ok d?) :
    (∀ f, returnStackFault sel level d? = some f → s.returnStack sel level = .error (.fault f)) ∧
      ∀ d, d? = some d → returnStackFault sel level d? = none → s.returnStack sel level = .ok d := by
  have hn : isNull sel = false := by rw [Bool.eq_false_iff, ne_eq, isNull_iff]; omega
  unfold State.returnStack State.descriptor
  rw [hn, hd]
  cases d? with
  | none => simp [returnStackFault, raiseGPSel, raise, errSel]
  | some e =>
    obtain ⟨b, l, ⟨k, dpl, p, big⟩⟩ := e
    by_cases h1 : sel.extractLsb' 0 2 = level <;> by_cases h2 : dpl = level <;> cases p <;> cases k with
    | data x y =>
      cases x <;>
        simp [returnStackFault, Rights.writable, rplOf, raiseGPSel, raiseNPSel, raise, errSel, h1, h2]
    | _ => simp [returnStackFault, Rights.writable, rplOf, raiseGPSel, raise, errSel, h1]

/-! ### The parameters that the host can take over -/

/-- `ReadDescriptor` at its default is the look-up of rule R81. -/
theorem State.readDescriptor_standard {s : State} (h : s.cfg.descriptorReader = .standard) (sel : Half) :
    s.readDescriptor sel = s.lookUp sel := by
  simp [State.readDescriptor, h]

/-- `IOPermission` at its default is the bit map of rule R97. -/
theorem State.ioPermission_tssMap {s : State} (h : s.cfg.ioPermission = .tssMap) (port n : Nat) :
    s.ioPermission port n = s.tssPermission port n := by
  simp [State.ioPermission, h]

/-! ### String instructions -/

/-- MOVS once (rule R230). -/
theorem movsOnce_eq_ok {w : Width} {s t : State} :
    movsOnce w s = .ok t ↔ s.MayRead w s.stringSrc ∧ s.MayWrite w s.stringDst ∧
      t = ((s.writeAt w s.stringDst (s.readAt w s.stringSrc)).advance .esi w).advance .edi w := by
  rw [movsOnce, check_ok_eq_ok, State.checkTwo_eq_ok, and_assoc]

/-- SCAS once (rule R231). -/
theorem scasOnce_eq_ok {w : Width} {s t : State} :
    scasOnce w s = .ok t ↔ s.MayRead w s.stringDst ∧
      t = (s.setFlags (s.flags.ofDifference w (subtract w (s.reg w .eax) (s.readAt w s.stringDst) false))).advance
        .edi w := by
  rw [scasOnce, check_ok_eq_ok, State.checkRead_eq_ok]

/-- STOS once (rule R232). -/
theorem stosOnce_eq_ok {w : Width} {s t : State} :
    stosOnce w s = .ok t ↔ s.MayWrite w s.stringDst ∧
      t = (s.writeAt w s.stringDst (s.reg w .eax)).advance .edi w := by
  rw [stosOnce, check_ok_eq_ok, State.checkWrite_eq_ok]

end Sys2Proof.Machine
end

