-- ==== Sys2Proof/Laws/PerInstr.lean ====
section
/-! SUPPORT. A statement about every instruction as syntax, with one lemma per constructor: its encoding has from 1 to 11
bytes, so that with one prefix of each of the four groups it fits in the default `MAX_INSTRUCTION_LENGTH` (rule R149). -/

namespace Sys2Proof.Laws

theorem encSized_length (sz : Size) (v : BitVec 32) : 2 ≤ (encSized sz v).length ∧ (encSized sz v).length ≤ 4 := by
  cases sz <;> simp [encSized, enc16, enc32]

theorem encDisp16_length (d : Disp16) : (encDisp16 d).2.length ≤ 2 := by cases d <;> simp [encDisp16, enc16]

theorem encDisp32_length (d : Disp32) : (encDisp32 d).2.length ≤ 4 := by cases d <;> simp [encDisp32, enc32]

theorem encRM_length (reg : BitVec 3) (rm : RM) : 1 ≤ (encRM reg rm).length ∧ (encRM reg rm).length ≤ 6 := by
  cases rm with
  | reg r => simp [encRM]
  | mem m =>
    cases m with
    | base16 b d => have := encDisp16_length d; simp [encRM]; omega
    | base32 b d => have := encDisp32_length d; simp [encRM]; omega
    | sib sc x b d => have := encDisp32_length d; simp [encRM]; omega
    | _ => simp [encRM, enc16, enc32]

/-- A list of bytes with a length from 1 to 11, 10 or less when a byte is still to come before it. -/
def Fits (most : Nat) (l : List Byte) : Prop := 1 ≤ l.length ∧ l.length ≤ most

theorem encE_fits (op : Byte) (reg : BitVec 3) (rm : RM) : Fits 10 (encE op reg rm) := by
  have := encRM_length reg rm
  simp [Fits, encE]; omega

theorem encEImm8_fits (op : Byte) (reg : BitVec 3) (rm : RM) (imm : BitVec 8) : Fits 10 (encEImm8 op reg rm imm) := by
  have := encRM_length reg rm
  simp [Fits, encEImm8]; omega

theorem encEImmV_fits (o : Size) (op : Byte) (reg : BitVec 3) (rm : RM) (imm : BitVec 32) :
    Fits 11 (encEImmV o op reg rm imm) := by
  have := encRM_length reg rm
  have := encSized_length o imm
  simp [Fits, encEImmV]; omega

theorem encV_fits (sz : Size) (op : Byte) (v : BitVec 32) : Fits 10 (encV sz op v) := by
  have := encSized_length sz v
  simp [Fits, encV]; omega

theorem encPtr_fits (sz : Size) (op : Byte) (off : BitVec 32) (sel : BitVec 16) :
    Fits 10 (op :: (encSized sz off ++ enc16 sel)) := by
  have := encSized_length sz off
  simp [Fits, enc16]; omega

theorem fits_wide {l : List Byte} (h : Fits 10 l) : Fits 11 l := ⟨h.1, Nat.le_succ_of_le h.2⟩

theorem fits_escaped {l : List Byte} (h : Fits 10 l) : Fits 11 (0x0F :: l) :=
  ⟨Nat.le_add_left 1 _, Nat.succ_le_succ h.2⟩

theorem encJcc_fits (o : Size) (cc : Byte) (rel : Rel) : Fits 11 (encJcc o cc rel) := by
  cases rel with
  | short d => simp [Fits, encJcc]
  | near d => exact fits_escaped (encV_fits o (0x80 + cc) d)

theorem encShift_fits (w : Byte) (kind : BitVec 3) (rm : RM) (n : Count) : Fits 11 (encShift w kind rm n) := by
  cases n with
  | one => exact fits_wide (encE_fits ..)
  | cl => exact fits_wide (encE_fits ..)
  | imm8 i => exact fits_wide (encEImm8_fits ..)

end Sys2Proof.Laws

namespace Sys2Proof.Laws.EncodedLength

/-- The encoding of the instruction has from 1 to 11 bytes under every size attribute (rules R110, R149). -/
def Statement (i : Instr) : Prop := ∀ o a : Size, Fits 11 (encode o a i)

theorem addRm8R8 (rm : RM) (r : Reg) : Statement (.addRm8R8 rm r) := fun _ _ => fits_wide (encE_fits ..)
theorem addRmvRv (rm : RM) (r : Reg) : Statement (.addRmvRv rm r) := fun _ _ => fits_wide (encE_fits ..)
theorem addR8Rm8 (rm : RM) (r : Reg) : Statement (.addR8Rm8 rm r) := fun _ _ => fits_wide (encE_fits ..)
theorem addRvRmv (rm : RM) (r : Reg) : Statement (.addRvRmv rm r) := fun _ _ => fits_wide (encE_fits ..)
theorem addAlImm8 (imm : BitVec 8) : Statement (.addAlImm8 imm) :=
  fun _ _ => ⟨Nat.le_of_ble_eq_true rfl, Nat.le_of_ble_eq_true rfl⟩
theorem addAxImmv (imm : BitVec 32) : Statement (.addAxImmv imm) := fun _ _ => fits_wide (encV_fits ..)
theorem addRm8Imm8 (rm : RM) (imm : BitVec 8) : Statement (.addRm8Imm8 rm imm) :=
  fun _ _ => fits_wide (encEImm8_fits ..)
theorem addRmvImmv (rm : RM) (imm : BitVec 32) : Statement (.addRmvImmv rm imm) := fun _ _ => encEImmV_fits ..
theorem addRmvImm8 (rm : RM) (imm : BitVec 8) : Statement (.addRmvImm8 rm imm) :=
  fun _ _ => fits_wide (encEImm8_fits ..)
theorem orRm8R8 (rm : RM) (r : Reg) : Statement (.orRm8R8 rm r) := fun _ _ => fits_wide (encE_fits ..)
theorem orRmvRv (rm : RM) (r : Reg) : Statement (.orRmvRv rm r) := fun _ _ => fits_wide (encE_fits ..)
theorem orR8Rm8 (rm : RM) (r : Reg) : Statement (.orR8Rm8 rm r) := fun _ _ => fits_wide (encE_fits ..)
theorem orRvRmv (rm : RM) (r : Reg) : Statement (.orRvRmv rm r) := fun _ _ => fits_wide (encE_fits ..)
theorem orAlImm8 (imm : BitVec 8) : Statement (.orAlImm8 imm) :=
  fun _ _ => ⟨Nat.le_of_ble_eq_true rfl, Nat.le_of_ble_eq_true rfl⟩
theorem orAxImmv (imm : BitVec 32) : Statement (.orAxImmv imm) := fun _ _ => fits_wide (encV_fits ..)
theorem orRm8Imm8 (rm : RM) (imm : BitVec 8) : Statement (.orRm8Imm8 rm imm) := fun _ _ => fits_wide (encEImm8_fits ..)
theorem orRmvImmv (rm : RM) (imm : BitVec 32) : Statement (.orRmvImmv rm imm) := fun _ _ => encEImmV_fits ..
theorem orRmvImm8 (rm : RM) (imm : BitVec 8) : Statement (.orRmvImm8 rm imm) := fun _ _ => fits_wide (encEImm8_fits ..)
theorem adcRm8R8 (rm : RM) (r : Reg) : Statement (.adcRm8R8 rm r) := fun _ _ => fits_wide (encE_fits ..)
theorem adcRmvRv (rm : RM) (r : Reg) : Statement (.adcRmvRv rm r) := fun _ _ => fits_wide (encE_fits ..)
theorem adcR8Rm8 (rm : RM) (r : Reg) : Statement (.adcR8Rm8 rm r) := fun _ _ => fits_wide (encE_fits ..)
theorem adcRvRmv (rm : RM) (r : Reg) : Statement (.adcRvRmv rm r) := fun _ _ => fits_wide (encE_fits ..)
theorem adcAlImm8 (imm : BitVec 8) : Statement (.adcAlImm8 imm) :=
  fun _ _ => ⟨Nat.le_of_ble_eq_true rfl, Nat.le_of_ble_eq_true rfl⟩
theorem adcAxImmv (imm : BitVec 32) : Statement (.adcAxImmv imm) := fun _ _ => fits_wide (encV_fits ..)
theorem adcRm8Imm8 (rm : RM) (imm : BitVec 8) : Statement (.adcRm8Imm8 rm imm) :=
  fun _ _ => fits_wide (encEImm8_fits ..)
theorem adcRmvImmv (rm : RM) (imm : BitVec 32) : Statement (.adcRmvImmv rm imm) := fun _ _ => encEImmV_fits ..
theorem adcRmvImm8 (rm : RM) (imm : BitVec 8) : Statement (.adcRmvImm8 rm imm) :=
  fun _ _ => fits_wide (encEImm8_fits ..)
theorem sbbRm8R8 (rm : RM) (r : Reg) : Statement (.sbbRm8R8 rm r) := fun _ _ => fits_wide (encE_fits ..)
theorem sbbRmvRv (rm : RM) (r : Reg) : Statement (.sbbRmvRv rm r) := fun _ _ => fits_wide (encE_fits ..)
theorem sbbR8Rm8 (rm : RM) (r : Reg) : Statement (.sbbR8Rm8 rm r) := fun _ _ => fits_wide (encE_fits ..)
theorem sbbRvRmv (rm : RM) (r : Reg) : Statement (.sbbRvRmv rm r) := fun _ _ => fits_wide (encE_fits ..)
theorem sbbAlImm8 (imm : BitVec 8) : Statement (.sbbAlImm8 imm) :=
  fun _ _ => ⟨Nat.le_of_ble_eq_true rfl, Nat.le_of_ble_eq_true rfl⟩
theorem sbbAxImmv (imm : BitVec 32) : Statement (.sbbAxImmv imm) := fun _ _ => fits_wide (encV_fits ..)
theorem sbbRm8Imm8 (rm : RM) (imm : BitVec 8) : Statement (.sbbRm8Imm8 rm imm) :=
  fun _ _ => fits_wide (encEImm8_fits ..)
theorem sbbRmvImmv (rm : RM) (imm : BitVec 32) : Statement (.sbbRmvImmv rm imm) := fun _ _ => encEImmV_fits ..
theorem sbbRmvImm8 (rm : RM) (imm : BitVec 8) : Statement (.sbbRmvImm8 rm imm) :=
  fun _ _ => fits_wide (encEImm8_fits ..)
theorem andRm8R8 (rm : RM) (r : Reg) : Statement (.andRm8R8 rm r) := fun _ _ => fits_wide (encE_fits ..)
theorem andRmvRv (rm : RM) (r : Reg) : Statement (.andRmvRv rm r) := fun _ _ => fits_wide (encE_fits ..)
theorem andR8Rm8 (rm : RM) (r : Reg) : Statement (.andR8Rm8 rm r) := fun _ _ => fits_wide (encE_fits ..)
theorem andRvRmv (rm : RM) (r : Reg) : Statement (.andRvRmv rm r) := fun _ _ => fits_wide (encE_fits ..)
theorem andAlImm8 (imm : BitVec 8) : Statement (.andAlImm8 imm) :=
  fun _ _ => ⟨Nat.le_of_ble_eq_true rfl, Nat.le_of_ble_eq_true rfl⟩
theorem andAxImmv (imm : BitVec 32) : Statement (.andAxImmv imm) := fun _ _ => fits_wide (encV_fits ..)
theorem andRm8Imm8 (rm : RM) (imm : BitVec 8) : Statement (.andRm8Imm8 rm imm) :=
  fun _ _ => fits_wide (encEImm8_fits ..)
theorem andRmvImmv (rm : RM) (imm : BitVec 32) : Statement (.andRmvImmv rm imm) := fun _ _ => encEImmV_fits ..
theorem andRmvImm8 (rm : RM) (imm : BitVec 8) : Statement (.andRmvImm8 rm imm) :=
  fun _ _ => fits_wide (encEImm8_fits ..)
theorem subRm8R8 (rm : RM) (r : Reg) : Statement (.subRm8R8 rm r) := fun _ _ => fits_wide (encE_fits ..)
theorem subRmvRv (rm : RM) (r : Reg) : Statement (.subRmvRv rm r) := fun _ _ => fits_wide (encE_fits ..)
theorem subR8Rm8 (rm : RM) (r : Reg) : Statement (.subR8Rm8 rm r) := fun _ _ => fits_wide (encE_fits ..)
theorem subRvRmv (rm : RM) (r : Reg) : Statement (.subRvRmv rm r) := fun _ _ => fits_wide (encE_fits ..)
theorem subAlImm8 (imm : BitVec 8) : Statement (.subAlImm8 imm) :=
  fun _ _ => ⟨Nat.le_of_ble_eq_true rfl, Nat.le_of_ble_eq_true rfl⟩
theorem subAxImmv (imm : BitVec 32) : Statement (.subAxImmv imm) := fun _ _ => fits_wide (encV_fits ..)
theorem subRm8Imm8 (rm : RM) (imm : BitVec 8) : Statement (.subRm8Imm8 rm imm) :=
  fun _ _ => fits_wide (encEImm8_fits ..)
theorem subRmvImmv (rm : RM) (imm : BitVec 32) : Statement (.subRmvImmv rm imm) := fun _ _ => encEImmV_fits ..
theorem subRmvImm8 (rm : RM) (imm : BitVec 8) : Statement (.subRmvImm8 rm imm) :=
  fun _ _ => fits_wide (encEImm8_fits ..)
theorem xorRm8R8 (rm : RM) (r : Reg) : Statement (.xorRm8R8 rm r) := fun _ _ => fits_wide (encE_fits ..)
theorem xorRmvRv (rm : RM) (r : Reg) : Statement (.xorRmvRv rm r) := fun _ _ => fits_wide (encE_fits ..)
theorem xorR8Rm8 (rm : RM) (r : Reg) : Statement (.xorR8Rm8 rm r) := fun _ _ => fits_wide (encE_fits ..)
theorem xorRvRmv (rm : RM) (r : Reg) : Statement (.xorRvRmv rm r) := fun _ _ => fits_wide (encE_fits ..)
theorem xorAlImm8 (imm : BitVec 8) : Statement (.xorAlImm8 imm) :=
  fun _ _ => ⟨Nat.le_of_ble_eq_true rfl, Nat.le_of_ble_eq_true rfl⟩
theorem xorAxImmv (imm : BitVec 32) : Statement (.xorAxImmv imm) := fun _ _ => fits_wide (encV_fits ..)
theorem xorRm8Imm8 (rm : RM) (imm : BitVec 8) : Statement (.xorRm8Imm8 rm imm) :=
  fun _ _ => fits_wide (encEImm8_fits ..)
theorem xorRmvImmv (rm : RM) (imm : BitVec 32) : Statement (.xorRmvImmv rm imm) := fun _ _ => encEImmV_fits ..
theorem xorRmvImm8 (rm : RM) (imm : BitVec 8) : Statement (.xorRmvImm8 rm imm) :=
  fun _ _ => fits_wide (encEImm8_fits ..)
theorem cmpRm8R8 (rm : RM) (r : Reg) : Statement (.cmpRm8R8 rm r) := fun _ _ => fits_wide (encE_fits ..)
theorem cmpRmvRv (rm : RM) (r : Reg) : Statement (.cmpRmvRv rm r) := fun _ _ => fits_wide (encE_fits ..)
theorem cmpR8Rm8 (rm : RM) (r : Reg) : Statement (.cmpR8Rm8 rm r) := fun _ _ => fits_wide (encE_fits ..)
theorem cmpRvRmv (rm : RM) (r : Reg) : Statement (.cmpRvRmv rm r) := fun _ _ => fits_wide (encE_fits ..)
theorem cmpAlImm8 (imm : BitVec 8) : Statement (.cmpAlImm8 imm) :=
  fun _ _ => ⟨Nat.le_of_ble_eq_true rfl, Nat.le_of_ble_eq_true rfl⟩
theorem cmpAxImmv (imm : BitVec 32) : Statement (.cmpAxImmv imm) := fun _ _ => fits_wide (encV_fits ..)
theorem cmpRm8Imm8 (rm : RM) (imm : BitVec 8) : Statement (.cmpRm8Imm8 rm imm) :=
  fun _ _ => fits_wide (encEImm8_fits ..)
theorem cmpRmvImmv (rm : RM) (imm : BitVec 32) : Statement (.cmpRmvImmv rm imm) := fun _ _ => encEImmV_fits ..
theorem cmpRmvImm8 (rm : RM) (imm : BitVec 8) : Statement (.cmpRmvImm8 rm imm) :=
  fun _ _ => fits_wide (encEImm8_fits ..)
theorem incReg (r : Reg) : Statement (.incReg r) := fun _ _ => ⟨Nat.le_of_ble_eq_true rfl, Nat.le_of_ble_eq_true rfl⟩
theorem decReg (r : Reg) : Statement (.decReg r) := fun _ _ => ⟨Nat.le_of_ble_eq_true rfl, Nat.le_of_ble_eq_true rfl⟩
theorem pushReg (r : Reg) : Statement (.pushReg r) := fun _ _ => ⟨Nat.le_of_ble_eq_true rfl, Nat.le_of_ble_eq_true rfl⟩
theorem popReg (r : Reg) : Statement (.popReg r) := fun _ _ => ⟨Nat.le_of_ble_eq_true rfl, Nat.le_of_ble_eq_true rfl⟩
theorem bound (m : Mem) (r : Reg) : Statement (.bound m r) := fun _ _ => fits_wide (encE_fits ..)
theorem arpl (rm : RM) (r : Reg) : Statement (.arpl rm r) := fun _ _ => fits_wide (encE_fits ..)
theorem pushImmv (imm : BitVec 32) : Statement (.pushImmv imm) := fun _ _ => fits_wide (encV_fits ..)
theorem imulRvRmvImmv (rm : RM) (r : Reg) (imm : BitVec 32) : Statement (.imulRvRmvImmv rm r imm) :=
  fun _ _ => encEImmV_fits ..
theorem pushImm8 (imm : BitVec 8) : Statement (.pushImm8 imm) :=
  fun _ _ => ⟨Nat.le_of_ble_eq_true rfl, Nat.le_of_ble_eq_true rfl⟩
theorem imulRvRmvImm8 (rm : RM) (r : Reg) (imm : BitVec 8) : Statement (.imulRvRmvImm8 rm r imm) :=
  fun _ _ => fits_wide (encEImm8_fits ..)
theorem jo (rel : Rel) : Statement (.jo rel) := fun _ _ => encJcc_fits ..
theorem jno (rel : Rel) : Statement (.jno rel) := fun _ _ => encJcc_fits ..
theorem jb (rel : Rel) : Statement (.jb rel) := fun _ _ => encJcc_fits ..
theorem jnb (rel : Rel) : Statement (.jnb rel) := fun _ _ => encJcc_fits ..
theorem jz (rel : Rel) : Statement (.jz rel) := fun _ _ => encJcc_fits ..
theorem jnz (rel : Rel) : Statement (.jnz rel) := fun _ _ => encJcc_fits ..
theorem jbe (rel : Rel) : Statement (.jbe rel) := fun _ _ => encJcc_fits ..
theorem jnbe (rel : Rel) : Statement (.jnbe rel) := fun _ _ => encJcc_fits ..
theorem js (rel : Rel) : Statement (.js rel) := fun _ _ => encJcc_fits ..
theorem jns (rel : Rel) : Statement (.jns rel) := fun _ _ => encJcc_fits ..
theorem jp (rel : Rel) : Statement (.jp rel) := fun _ _ => encJcc_fits ..
theorem jnp (rel : Rel) : Statement (.jnp rel) := fun _ _ => encJcc_fits ..
theorem jl (rel : Rel) : Statement (.jl rel) := fun _ _ => encJcc_fits ..
theorem jnl (rel : Rel) : Statement (.jnl rel) := fun _ _ => encJcc_fits ..
theorem jle (rel : Rel) : Statement (.jle rel) := fun _ _ => encJcc_fits ..
theorem jnle (rel : Rel) : Statement (.jnle rel) := fun _ _ => encJcc_fits ..
theorem testRm8R8 (rm : RM) (r : Reg) : Statement (.testRm8R8 rm r) := fun _ _ => fits_wide (encE_fits ..)
theorem testRmvRv (rm : RM) (r : Reg) : Statement (.testRmvRv rm r) := fun _ _ => fits_wide (encE_fits ..)
theorem xchgRm8R8 (rm : RM) (r : Reg) : Statement (.xchgRm8R8 rm r) := fun _ _ => fits_wide (encE_fits ..)
theorem xchgRmvRv (rm : RM) (r : Reg) : Statement (.xchgRmvRv rm r) := fun _ _ => fits_wide (encE_fits ..)
theorem movRm8R8 (rm : RM) (r : Reg) : Statement (.movRm8R8 rm r) := fun _ _ => fits_wide (encE_fits ..)
theorem movRmvRv (rm : RM) (r : Reg) : Statement (.movRmvRv rm r) := fun _ _ => fits_wide (encE_fits ..)
theorem movR8Rm8 (rm : RM) (r : Reg) : Statement (.movR8Rm8 rm r) := fun _ _ => fits_wide (encE_fits ..)
theorem movRvRmv (rm : RM) (r : Reg) : Statement (.movRvRmv rm r) := fun _ _ => fits_wide (encE_fits ..)
theorem movRm16Sreg (rm : RM) (sr : SegReg) : Statement (.movRm16Sreg rm sr) := fun _ _ => fits_wide (encE_fits ..)
theorem lea (m : Mem) (r : Reg) : Statement (.lea m r) := fun _ _ => fits_wide (encE_fits ..)
theorem movSregRm16 (rm : RM) (sr : SegReg) : Statement (.movSregRm16 rm sr) := fun _ _ => fits_wide (encE_fits ..)
theorem popRm (rm : RM) : Statement (.popRm rm) := fun _ _ => fits_wide (encE_fits ..)
theorem xchgAxReg (r : Reg) : Statement (.xchgAxReg r) :=
  fun _ _ => ⟨Nat.le_of_ble_eq_true rfl, Nat.le_of_ble_eq_true rfl⟩
theorem callPtr (off : BitVec 32) (sel : BitVec 16) : Statement (.callPtr off sel) :=
  fun _ _ => fits_wide (encPtr_fits ..)
theorem movAlMoffs (off : BitVec 32) : Statement (.movAlMoffs off) := fun _ _ => fits_wide (encV_fits ..)
theorem movAxMoffs (off : BitVec 32) : Statement (.movAxMoffs off) := fun _ _ => fits_wide (encV_fits ..)
theorem movMoffsAl (off : BitVec 32) : Statement (.movMoffsAl off) := fun _ _ => fits_wide (encV_fits ..)
theorem movMoffsAx (off : BitVec 32) : Statement (.movMoffsAx off) := fun _ _ => fits_wide (encV_fits ..)
theorem testAlImm8 (imm : BitVec 8) : Statement (.testAlImm8 imm) :=
  fun _ _ => ⟨Nat.le_of_ble_eq_true rfl, Nat.le_of_ble_eq_true rfl⟩
theorem testAxImmv (imm : BitVec 32) : Statement (.testAxImmv imm) := fun _ _ => fits_wide (encV_fits ..)
theorem movReg8Imm8 (r : Reg) (imm : BitVec 8) : Statement (.movReg8Imm8 r imm) :=
  fun _ _ => ⟨Nat.le_of_ble_eq_true rfl, Nat.le_of_ble_eq_true rfl⟩
theorem movRegvImmv (r : Reg) (imm : BitVec 32) : Statement (.movRegvImmv r imm) := fun _ _ => fits_wide (encV_fits ..)
theorem rolRm8 (rm : RM) (n : Count) : Statement (.rolRm8 rm n) := fun _ _ => encShift_fits ..
theorem rolRmv (rm : RM) (n : Count) : Statement (.rolRmv rm n) := fun _ _ => encShift_fits ..
theorem rorRm8 (rm : RM) (n : Count) : Statement (.rorRm8 rm n) := fun _ _ => encShift_fits ..
theorem rorRmv (rm : RM) (n : Count) : Statement (.rorRmv rm n) := fun _ _ => encShift_fits ..
theorem rclRm8 (rm : RM) (n : Count) : Statement (.rclRm8 rm n) := fun _ _ => encShift_fits ..
theorem rclRmv (rm : RM) (n : Count) : Statement (.rclRmv rm n) := fun _ _ => encShift_fits ..
theorem rcrRm8 (rm : RM) (n : Count) : Statement (.rcrRm8 rm n) := fun _ _ => encShift_fits ..
theorem rcrRmv (rm : RM) (n : Count) : Statement (.rcrRmv rm n) := fun _ _ => encShift_fits ..
theorem shlRm8 (rm : RM) (n : Count) : Statement (.shlRm8 rm n) := fun _ _ => encShift_fits ..
theorem shlRmv (rm : RM) (n : Count) : Statement (.shlRmv rm n) := fun _ _ => encShift_fits ..
theorem shrRm8 (rm : RM) (n : Count) : Statement (.shrRm8 rm n) := fun _ _ => encShift_fits ..
theorem shrRmv (rm : RM) (n : Count) : Statement (.shrRmv rm n) := fun _ _ => encShift_fits ..
theorem sarRm8 (rm : RM) (n : Count) : Statement (.sarRm8 rm n) := fun _ _ => encShift_fits ..
theorem sarRmv (rm : RM) (n : Count) : Statement (.sarRmv rm n) := fun _ _ => encShift_fits ..
theorem retNearImm (imm : BitVec 16) : Statement (.retNearImm imm) :=
  fun _ _ => ⟨Nat.le_of_ble_eq_true rfl, Nat.le_of_ble_eq_true rfl⟩
theorem les (m : Mem) (r : Reg) : Statement (.les m r) := fun _ _ => fits_wide (encE_fits ..)
theorem lds (m : Mem) (r : Reg) : Statement (.lds m r) := fun _ _ => fits_wide (encE_fits ..)
theorem movRm8Imm8 (rm : RM) (imm : BitVec 8) : Statement (.movRm8Imm8 rm imm) :=
  fun _ _ => fits_wide (encEImm8_fits ..)
theorem movRmvImmv (rm : RM) (imm : BitVec 32) : Statement (.movRmvImmv rm imm) := fun _ _ => encEImmV_fits ..
theorem enter (imm : BitVec 16) (level : BitVec 8) : Statement (.enter imm level) :=
  fun _ _ => ⟨Nat.le_of_ble_eq_true rfl, Nat.le_of_ble_eq_true rfl⟩
theorem retFarImm (imm : BitVec 16) : Statement (.retFarImm imm) :=
  fun _ _ => ⟨Nat.le_of_ble_eq_true rfl, Nat.le_of_ble_eq_true rfl⟩
theorem intImm8 (imm : BitVec 8) : Statement (.intImm8 imm) :=
  fun _ _ => ⟨Nat.le_of_ble_eq_true rfl, Nat.le_of_ble_eq_true rfl⟩
theorem esc (low : BitVec 3) (ext : BitVec 3) (rm : RM) : Statement (.esc low ext rm) :=
  fun _ _ => fits_wide (encE_fits ..)
theorem loopne (rel : BitVec 8) : Statement (.loopne rel) :=
  fun _ _ => ⟨Nat.le_of_ble_eq_true rfl, Nat.le_of_ble_eq_true rfl⟩
theorem loope (rel : BitVec 8) : Statement (.loope rel) :=
  fun _ _ => ⟨Nat.le_of_ble_eq_true rfl, Nat.le_of_ble_eq_true rfl⟩
theorem loop (rel : BitVec 8) : Statement (.loop rel) :=
  fun _ _ => ⟨Nat.le_of_ble_eq_true rfl, Nat.le_of_ble_eq_true rfl⟩
theorem jcxz (rel : BitVec 8) : Statement (.jcxz rel) :=
  fun _ _ => ⟨Nat.le_of_ble_eq_true rfl, Nat.le_of_ble_eq_true rfl⟩
theorem inAlImm8 (imm : BitVec 8) : Statement (.inAlImm8 imm) :=
  fun _ _ => ⟨Nat.le_of_ble_eq_true rfl, Nat.le_of_ble_eq_true rfl⟩
theorem inAxImm8 (imm : BitVec 8) : Statement (.inAxImm8 imm) :=
  fun _ _ => ⟨Nat.le_of_ble_eq_true rfl, Nat.le_of_ble_eq_true rfl⟩
theorem outImm8Al (imm : BitVec 8) : Statement (.outImm8Al imm) :=
  fun _ _ => ⟨Nat.le_of_ble_eq_true rfl, Nat.le_of_ble_eq_true rfl⟩
theorem outImm8Ax (imm : BitVec 8) : Statement (.outImm8Ax imm) :=
  fun _ _ => ⟨Nat.le_of_ble_eq_true rfl, Nat.le_of_ble_eq_true rfl⟩
theorem callRel (rel : BitVec 32) : Statement (.callRel rel) := fun _ _ => fits_wide (encV_fits ..)
theorem jmpRel (rel : BitVec 32) : Statement (.jmpRel rel) := fun _ _ => fits_wide (encV_fits ..)
theorem jmpPtr (off : BitVec 32) (sel : BitVec 16) : Statement (.jmpPtr off sel) :=
  fun _ _ => fits_wide (encPtr_fits ..)
theorem jmpRel8 (rel : BitVec 8) : Statement (.jmpRel8 rel) :=
  fun _ _ => ⟨Nat.le_of_ble_eq_true rfl, Nat.le_of_ble_eq_true rfl⟩
theorem testRm8Imm8 (rm : RM) (imm : BitVec 8) : Statement (.testRm8Imm8 rm imm) :=
  fun _ _ => fits_wide (encEImm8_fits ..)
theorem notRm8 (rm : RM) : Statement (.notRm8 rm) := fun _ _ => fits_wide (encE_fits ..)
theorem negRm8 (rm : RM) : Statement (.negRm8 rm) := fun _ _ => fits_wide (encE_fits ..)
theorem mulRm8 (rm : RM) : Statement (.mulRm8 rm) := fun _ _ => fits_wide (encE_fits ..)
theorem imulRm8 (rm : RM) : Statement (.imulRm8 rm) := fun _ _ => fits_wide (encE_fits ..)
theorem divRm8 (rm : RM) : Statement (.divRm8 rm) := fun _ _ => fits_wide (encE_fits ..)
theorem idivRm8 (rm : RM) : Statement (.idivRm8 rm) := fun _ _ => fits_wide (encE_fits ..)
theorem testRmvImmv (rm : RM) (imm : BitVec 32) : Statement (.testRmvImmv rm imm) := fun _ _ => encEImmV_fits ..
theorem notRmv (rm : RM) : Statement (.notRmv rm) := fun _ _ => fits_wide (encE_fits ..)
theorem negRmv (rm : RM) : Statement (.negRmv rm) := fun _ _ => fits_wide (encE_fits ..)
theorem mulRmv (rm : RM) : Statement (.mulRmv rm) := fun _ _ => fits_wide (encE_fits ..)
theorem imulRmv (rm : RM) : Statement (.imulRmv rm) := fun _ _ => fits_wide (encE_fits ..)
theorem divRmv (rm : RM) : Statement (.divRmv rm) := fun _ _ => fits_wide (encE_fits ..)
theorem idivRmv (rm : RM) : Statement (.idivRmv rm) := fun _ _ => fits_wide (encE_fits ..)
theorem incRm8 (rm : RM) : Statement (.incRm8 rm) := fun _ _ => fits_wide (encE_fits ..)
theorem decRm8 (rm : RM) : Statement (.decRm8 rm) := fun _ _ => fits_wide (encE_fits ..)
theorem incRmv (rm : RM) : Statement (.incRmv rm) := fun _ _ => fits_wide (encE_fits ..)
theorem decRmv (rm : RM) : Statement (.decRmv rm) := fun _ _ => fits_wide (encE_fits ..)
theorem callRmv (rm : RM) : Statement (.callRmv rm) := fun _ _ => fits_wide (encE_fits ..)
theorem callMem (m : Mem) : Statement (.callMem m) := fun _ _ => fits_wide (encE_fits ..)
theorem jmpRmv (rm : RM) : Statement (.jmpRmv rm) := fun _ _ => fits_wide (encE_fits ..)
theorem jmpMem (m : Mem) : Statement (.jmpMem m) := fun _ _ => fits_wide (encE_fits ..)
theorem pushRm (rm : RM) : Statement (.pushRm rm) := fun _ _ => fits_wide (encE_fits ..)
theorem sldt (rm : RM) : Statement (.sldt rm) := fun _ _ => fits_escaped (encE_fits ..)
theorem str (rm : RM) : Statement (.str rm) := fun _ _ => fits_escaped (encE_fits ..)
theorem lldt (rm : RM) : Statement (.lldt rm) := fun _ _ => fits_escaped (encE_fits ..)
theorem ltr (rm : RM) : Statement (.ltr rm) := fun _ _ => fits_escaped (encE_fits ..)
theorem verr (rm : RM) : Statement (.verr rm) := fun _ _ => fits_escaped (encE_fits ..)
theorem verw (rm : RM) : Statement (.verw rm) := fun _ _ => fits_escaped (encE_fits ..)
theorem sgdt (rm : RM) : Statement (.sgdt rm) := fun _ _ => fits_escaped (encE_fits ..)
theorem sidt (rm : RM) : Statement (.sidt rm) := fun _ _ => fits_escaped (encE_fits ..)
theorem lgdt (m : Mem) : Statement (.lgdt m) := fun _ _ => fits_escaped (encE_fits ..)
theorem lidt (m : Mem) : Statement (.lidt m) := fun _ _ => fits_escaped (encE_fits ..)
theorem smsw (rm : RM) : Statement (.smsw rm) := fun _ _ => fits_escaped (encE_fits ..)
theorem lmsw (rm : RM) : Statement (.lmsw rm) := fun _ _ => fits_escaped (encE_fits ..)
theorem lar (rm : RM) (r : Reg) : Statement (.lar rm r) := fun _ _ => fits_escaped (encE_fits ..)
theorem lsl (rm : RM) (r : Reg) : Statement (.lsl rm r) := fun _ _ => fits_escaped (encE_fits ..)
theorem movR32Cr (c : CReg) (r : Reg) : Statement (.movR32Cr c r) := fun _ _ => fits_escaped (encE_fits ..)
theorem movR32Dr (d : DReg) (r : Reg) : Statement (.movR32Dr d r) := fun _ _ => fits_escaped (encE_fits ..)
theorem movCrR32 (c : CReg) (r : Reg) : Statement (.movCrR32 c r) := fun _ _ => fits_escaped (encE_fits ..)
theorem movDrR32 (d : DReg) (r : Reg) : Statement (.movDrR32 d r) := fun _ _ => fits_escaped (encE_fits ..)
theorem movR32Tr (t : TReg) (r : Reg) : Statement (.movR32Tr t r) := fun _ _ => fits_escaped (encE_fits ..)
theorem movTrR32 (t : TReg) (r : Reg) : Statement (.movTrR32 t r) := fun _ _ => fits_escaped (encE_fits ..)
theorem seto (rm : RM) : Statement (.seto rm) := fun _ _ => fits_escaped (encE_fits ..)
theorem setno (rm : RM) : Statement (.setno rm) := fun _ _ => fits_escaped (encE_fits ..)
theorem setb (rm : RM) : Statement (.setb rm) := fun _ _ => fits_escaped (encE_fits ..)
theorem setnb (rm : RM) : Statement (.setnb rm) := fun _ _ => fits_escaped (encE_fits ..)
theorem setz (rm : RM) : Statement (.setz rm) := fun _ _ => fits_escaped (encE_fits ..)
theorem setnz (rm : RM) : Statement (.setnz rm) := fun _ _ => fits_escaped (encE_fits ..)
theorem setbe (rm : RM) : Statement (.setbe rm) := fun _ _ => fits_escaped (encE_fits ..)
theorem setnbe (rm : RM) : Statement (.setnbe rm) := fun _ _ => fits_escaped (encE_fits ..)
theorem sets (rm : RM) : Statement (.sets rm) := fun _ _ => fits_escaped (encE_fits ..)
theorem setns (rm : RM) : Statement (.setns rm) := fun _ _ => fits_escaped (encE_fits ..)
theorem setp (rm : RM) : Statement (.setp rm) := fun _ _ => fits_escaped (encE_fits ..)
theorem setnp (rm : RM) : Statement (.setnp rm) := fun _ _ => fits_escaped (encE_fits ..)
theorem setl (rm : RM) : Statement (.setl rm) := fun _ _ => fits_escaped (encE_fits ..)
theorem setnl (rm : RM) : Statement (.setnl rm) := fun _ _ => fits_escaped (encE_fits ..)
theorem setle (rm : RM) : Statement (.setle rm) := fun _ _ => fits_escaped (encE_fits ..)
theorem setnle (rm : RM) : Statement (.setnle rm) := fun _ _ => fits_escaped (encE_fits ..)
theorem btRmvRv (rm : RM) (r : Reg) : Statement (.btRmvRv rm r) := fun _ _ => fits_escaped (encE_fits ..)
theorem shldImm8 (rm : RM) (r : Reg) (imm : BitVec 8) : Statement (.shldImm8 rm r imm) :=
  fun _ _ => fits_escaped (encEImm8_fits ..)
theorem shldCl (rm : RM) (r : Reg) : Statement (.shldCl rm r) := fun _ _ => fits_escaped (encE_fits ..)
theorem btsRmvRv (rm : RM) (r : Reg) : Statement (.btsRmvRv rm r) := fun _ _ => fits_escaped (encE_fits ..)
theorem shrdImm8 (rm : RM) (r : Reg) (imm : BitVec 8) : Statement (.shrdImm8 rm r imm) :=
  fun _ _ => fits_escaped (encEImm8_fits ..)
theorem shrdCl (rm : RM) (r : Reg) : Statement (.shrdCl rm r) := fun _ _ => fits_escaped (encE_fits ..)
theorem imulRvRmv (rm : RM) (r : Reg) : Statement (.imulRvRmv rm r) := fun _ _ => fits_escaped (encE_fits ..)
theorem lss (m : Mem) (r : Reg) : Statement (.lss m r) := fun _ _ => fits_escaped (encE_fits ..)
theorem btrRmvRv (rm : RM) (r : Reg) : Statement (.btrRmvRv rm r) := fun _ _ => fits_escaped (encE_fits ..)
theorem lfs (m : Mem) (r : Reg) : Statement (.lfs m r) := fun _ _ => fits_escaped (encE_fits ..)
theorem lgs (m : Mem) (r : Reg) : Statement (.lgs m r) := fun _ _ => fits_escaped (encE_fits ..)
theorem movzx8 (rm : RM) (r : Reg) : Statement (.movzx8 rm r) := fun _ _ => fits_escaped (encE_fits ..)
theorem movzx16 (rm : RM) (r : Reg) : Statement (.movzx16 rm r) := fun _ _ => fits_escaped (encE_fits ..)
theorem btRmvImm8 (rm : RM) (imm : BitVec 8) : Statement (.btRmvImm8 rm imm) :=
  fun _ _ => fits_escaped (encEImm8_fits ..)
theorem btsRmvImm8 (rm : RM) (imm : BitVec 8) : Statement (.btsRmvImm8 rm imm) :=
  fun _ _ => fits_escaped (encEImm8_fits ..)
theorem btrRmvImm8 (rm : RM) (imm : BitVec 8) : Statement (.btrRmvImm8 rm imm) :=
  fun _ _ => fits_escaped (encEImm8_fits ..)
theorem btcRmvImm8 (rm : RM) (imm : BitVec 8) : Statement (.btcRmvImm8 rm imm) :=
  fun _ _ => fits_escaped (encEImm8_fits ..)
theorem btcRmvRv (rm : RM) (r : Reg) : Statement (.btcRmvRv rm r) := fun _ _ => fits_escaped (encE_fits ..)
theorem bsf (rm : RM) (r : Reg) : Statement (.bsf rm r) := fun _ _ => fits_escaped (encE_fits ..)
theorem bsr (rm : RM) (r : Reg) : Statement (.bsr rm r) := fun _ _ => fits_escaped (encE_fits ..)
theorem movsx8 (rm : RM) (r : Reg) : Statement (.movsx8 rm r) := fun _ _ => fits_escaped (encE_fits ..)
theorem movsx16 (rm : RM) (r : Reg) : Statement (.movsx16 rm r) := fun _ _ => fits_escaped (encE_fits ..)
theorem segEs : Statement .segEs := fun _ _ => ⟨Nat.le_of_ble_eq_true rfl, Nat.le_of_ble_eq_true rfl⟩
theorem segCs : Statement .segCs := fun _ _ => ⟨Nat.le_of_ble_eq_true rfl, Nat.le_of_ble_eq_true rfl⟩
theorem segSs : Statement .segSs := fun _ _ => ⟨Nat.le_of_ble_eq_true rfl, Nat.le_of_ble_eq_true rfl⟩
theorem segDs : Statement .segDs := fun _ _ => ⟨Nat.le_of_ble_eq_true rfl, Nat.le_of_ble_eq_true rfl⟩
theorem segFs : Statement .segFs := fun _ _ => ⟨Nat.le_of_ble_eq_true rfl, Nat.le_of_ble_eq_true rfl⟩
theorem segGs : Statement .segGs := fun _ _ => ⟨Nat.le_of_ble_eq_true rfl, Nat.le_of_ble_eq_true rfl⟩
theorem opsize : Statement .opsize := fun _ _ => ⟨Nat.le_of_ble_eq_true rfl, Nat.le_of_ble_eq_true rfl⟩
theorem addrsize : Statement .addrsize := fun _ _ => ⟨Nat.le_of_ble_eq_true rfl, Nat.le_of_ble_eq_true rfl⟩
theorem lock : Statement .lock := fun _ _ => ⟨Nat.le_of_ble_eq_true rfl, Nat.le_of_ble_eq_true rfl⟩
theorem repne : Statement .repne := fun _ _ => ⟨Nat.le_of_ble_eq_true rfl, Nat.le_of_ble_eq_true rfl⟩
theorem rep : Statement .rep := fun _ _ => ⟨Nat.le_of_ble_eq_true rfl, Nat.le_of_ble_eq_true rfl⟩
theorem pushEs : Statement .pushEs := fun _ _ => ⟨Nat.le_of_ble_eq_true rfl, Nat.le_of_ble_eq_true rfl⟩
theorem popEs : Statement .popEs := fun _ _ => ⟨Nat.le_of_ble_eq_true rfl, Nat.le_of_ble_eq_true rfl⟩
theorem pushCs : Statement .pushCs := fun _ _ => ⟨Nat.le_of_ble_eq_true rfl, Nat.le_of_ble_eq_true rfl⟩
theorem pushSs : Statement .pushSs := fun _ _ => ⟨Nat.le_of_ble_eq_true rfl, Nat.le_of_ble_eq_true rfl⟩
theorem popSs : Statement .popSs := fun _ _ => ⟨Nat.le_of_ble_eq_true rfl, Nat.le_of_ble_eq_true rfl⟩
theorem pushDs : Statement .pushDs := fun _ _ => ⟨Nat.le_of_ble_eq_true rfl, Nat.le_of_ble_eq_true rfl⟩
theorem popDs : Statement .popDs := fun _ _ => ⟨Nat.le_of_ble_eq_true rfl, Nat.le_of_ble_eq_true rfl⟩
theorem daa : Statement .daa := fun _ _ => ⟨Nat.le_of_ble_eq_true rfl, Nat.le_of_ble_eq_true rfl⟩
theorem das : Statement .das := fun _ _ => ⟨Nat.le_of_ble_eq_true rfl, Nat.le_of_ble_eq_true rfl⟩
theorem aaa : Statement .aaa := fun _ _ => ⟨Nat.le_of_ble_eq_true rfl, Nat.le_of_ble_eq_true rfl⟩
theorem aas : Statement .aas := fun _ _ => ⟨Nat.le_of_ble_eq_true rfl, Nat.le_of_ble_eq_true rfl⟩
theorem aam : Statement .aam := fun _ _ => ⟨Nat.le_of_ble_eq_true rfl, Nat.le_of_ble_eq_true rfl⟩
theorem aad : Statement .aad := fun _ _ => ⟨Nat.le_of_ble_eq_true rfl, Nat.le_of_ble_eq_true rfl⟩
theorem pusha : Statement .pusha := fun _ _ => ⟨Nat.le_of_ble_eq_true rfl, Nat.le_of_ble_eq_true rfl⟩
theorem popa : Statement .popa := fun _ _ => ⟨Nat.le_of_ble_eq_true rfl, Nat.le_of_ble_eq_true rfl⟩
theorem ins8 : Statement .ins8 := fun _ _ => ⟨Nat.le_of_ble_eq_true rfl, Nat.le_of_ble_eq_true rfl⟩
theorem insv : Statement .insv := fun _ _ => ⟨Nat.le_of_ble_eq_true rfl, Nat.le_of_ble_eq_true rfl⟩
theorem outs8 : Statement .outs8 := fun _ _ => ⟨Nat.le_of_ble_eq_true rfl, Nat.le_of_ble_eq_true rfl⟩
theorem outsv : Statement .outsv := fun _ _ => ⟨Nat.le_of_ble_eq_true rfl, Nat.le_of_ble_eq_true rfl⟩
theorem nop : Statement .nop := fun _ _ => ⟨Nat.le_of_ble_eq_true rfl, Nat.le_of_ble_eq_true rfl⟩
theorem cbw : Statement .cbw := fun _ _ => ⟨Nat.le_of_ble_eq_true rfl, Nat.le_of_ble_eq_true rfl⟩
theorem cwd : Statement .cwd := fun _ _ => ⟨Nat.le_of_ble_eq_true rfl, Nat.le_of_ble_eq_true rfl⟩
theorem wait : Statement .wait := fun _ _ => ⟨Nat.le_of_ble_eq_true rfl, Nat.le_of_ble_eq_true rfl⟩
theorem pushf : Statement .pushf := fun _ _ => ⟨Nat.le_of_ble_eq_true rfl, Nat.le_of_ble_eq_true rfl⟩
theorem popf : Statement .popf := fun _ _ => ⟨Nat.le_of_ble_eq_true rfl, Nat.le_of_ble_eq_true rfl⟩
theorem sahf : Statement .sahf := fun _ _ => ⟨Nat.le_of_ble_eq_true rfl, Nat.le_of_ble_eq_true rfl⟩
theorem lahf : Statement .lahf := fun _ _ => ⟨Nat.le_of_ble_eq_true rfl, Nat.le_of_ble_eq_true rfl⟩
theorem movs8 : Statement .movs8 := fun _ _ => ⟨Nat.le_of_ble_eq_true rfl, Nat.le_of_ble_eq_true rfl⟩
theorem movsv : Statement .movsv := fun _ _ => ⟨Nat.le_of_ble_eq_true rfl, Nat.le_of_ble_eq_true rfl⟩
theorem cmps8 : Statement .cmps8 := fun _ _ => ⟨Nat.le_of_ble_eq_true rfl, Nat.le_of_ble_eq_true rfl⟩
theorem cmpsv : Statement .cmpsv := fun _ _ => ⟨Nat.le_of_ble_eq_true rfl, Nat.le_of_ble_eq_true rfl⟩
theorem stos8 : Statement .stos8 := fun _ _ => ⟨Nat.le_of_ble_eq_true rfl, Nat.le_of_ble_eq_true rfl⟩
theorem stosv : Statement .stosv := fun _ _ => ⟨Nat.le_of_ble_eq_true rfl, Nat.le_of_ble_eq_true rfl⟩
theorem lods8 : Statement .lods8 := fun _ _ => ⟨Nat.le_of_ble_eq_true rfl, Nat.le_of_ble_eq_true rfl⟩
theorem lodsv : Statement .lodsv := fun _ _ => ⟨Nat.le_of_ble_eq_true rfl, Nat.le_of_ble_eq_true rfl⟩
theorem scas8 : Statement .scas8 := fun _ _ => ⟨Nat.le_of_ble_eq_true rfl, Nat.le_of_ble_eq_true rfl⟩
theorem scasv : Statement .scasv := fun _ _ => ⟨Nat.le_of_ble_eq_true rfl, Nat.le_of_ble_eq_true rfl⟩
theorem retNear : Statement .retNear := fun _ _ => ⟨Nat.le_of_ble_eq_true rfl, Nat.le_of_ble_eq_true rfl⟩
theorem leave : Statement .leave := fun _ _ => ⟨Nat.le_of_ble_eq_true rfl, Nat.le_of_ble_eq_true rfl⟩
theorem retFar : Statement .retFar := fun _ _ => ⟨Nat.le_of_ble_eq_true rfl, Nat.le_of_ble_eq_true rfl⟩
theorem int3 : Statement .int3 := fun _ _ => ⟨Nat.le_of_ble_eq_true rfl, Nat.le_of_ble_eq_true rfl⟩
theorem into : Statement .into := fun _ _ => ⟨Nat.le_of_ble_eq_true rfl, Nat.le_of_ble_eq_true rfl⟩
theorem iret : Statement .iret := fun _ _ => ⟨Nat.le_of_ble_eq_true rfl, Nat.le_of_ble_eq_true rfl⟩
theorem xlat : Statement .xlat := fun _ _ => ⟨Nat.le_of_ble_eq_true rfl, Nat.le_of_ble_eq_true rfl⟩
theorem inAlDx : Statement .inAlDx := fun _ _ => ⟨Nat.le_of_ble_eq_true rfl, Nat.le_of_ble_eq_true rfl⟩
theorem inAxDx : Statement .inAxDx := fun _ _ => ⟨Nat.le_of_ble_eq_true rfl, Nat.le_of_ble_eq_true rfl⟩
theorem outDxAl : Statement .outDxAl := fun _ _ => ⟨Nat.le_of_ble_eq_true rfl, Nat.le_of_ble_eq_true rfl⟩
theorem outDxAx : Statement .outDxAx := fun _ _ => ⟨Nat.le_of_ble_eq_true rfl, Nat.le_of_ble_eq_true rfl⟩
theorem hlt : Statement .hlt := fun _ _ => ⟨Nat.le_of_ble_eq_true rfl, Nat.le_of_ble_eq_true rfl⟩
theorem cmc : Statement .cmc := fun _ _ => ⟨Nat.le_of_ble_eq_true rfl, Nat.le_of_ble_eq_true rfl⟩
theorem clc : Statement .clc := fun _ _ => ⟨Nat.le_of_ble_eq_true rfl, Nat.le_of_ble_eq_true rfl⟩
theorem stc : Statement .stc := fun _ _ => ⟨Nat.le_of_ble_eq_true rfl, Nat.le_of_ble_eq_true rfl⟩
theorem cli : Statement .cli := fun _ _ => ⟨Nat.le_of_ble_eq_true rfl, Nat.le_of_ble_eq_true rfl⟩
theorem sti : Statement .sti := fun _ _ => ⟨Nat.le_of_ble_eq_true rfl, Nat.le_of_ble_eq_true rfl⟩
theorem cld : Statement .cld := fun _ _ => ⟨Nat.le_of_ble_eq_true rfl, Nat.le_of_ble_eq_true rfl⟩
theorem std : Statement .std := fun _ _ => ⟨Nat.le_of_ble_eq_true rfl, Nat.le_of_ble_eq_true rfl⟩
theorem clts : Statement .clts := fun _ _ => ⟨Nat.le_of_ble_eq_true rfl, Nat.le_of_ble_eq_true rfl⟩
theorem pushFs : Statement .pushFs := fun _ _ => ⟨Nat.le_of_ble_eq_true rfl, Nat.le_of_ble_eq_true rfl⟩
theorem popFs : Statement .popFs := fun _ _ => ⟨Nat.le_of_ble_eq_true rfl, Nat.le_of_ble_eq_true rfl⟩
theorem pushGs : Statement .pushGs := fun _ _ => ⟨Nat.le_of_ble_eq_true rfl, Nat.le_of_ble_eq_true rfl⟩
theorem popGs : Statement .popGs := fun _ _ => ⟨Nat.le_of_ble_eq_true rfl, Nat.le_of_ble_eq_true rfl⟩

end Sys2Proof.Laws.EncodedLength
end

