-- ==== Sys2Proof/Tests/Slice0.lean ====
section
/-! SUPPORT. Tests: the well-formedness checks, one word of every row of the opcode table, the spec's test vectors, and a
witness for the hypotheses of each statement. -/

namespace Sys2Proof.Tests
open Sys2Proof.Machine

/-! ### Helpers -/

/-- A segment register of the vectors' start state. -/
def flat : Segment := { sel := 0, valid := true, base := 0, limit := 0xFFFF, rights := realRights }

/-- The start state of spec/95_test_vectors.md. -/
def base : State := { State.reset with eip := 0x100, segs := ⟨flat, flat, flat, flat, flat, flat⟩ }

def put (a : Nat) (bs : List Byte) (s : State) : State :=
  { s with mem := writeBytes s.mem ((List.range bs.length).map (a + ·)) bs }

def setr (w : Width) (r : Reg) (v : Word) (s : State) : State := s.setReg w r v

def setf (g : Flags → Flags) (s : State) : State := { s with flags := g s.flags }

def setReal (r : SegReg) (sel : Half) (s : State) : State := s.setSeg r (realSegment sel)

def inProtected (s : State) : State := { s with cr0 := 0x11 }

def inV86 (s : State) : State := { s with cr0 := 0x11, cpl := 3, flags := { s.flags with vm := true } }

/-- The registers of the encoding vectors. -/
def addressRegs (s : State) : State := { s with regs := ⟨0x10, 3, 0, 0x1000, 0x2000, 0x3000, 0x100, 0x200⟩ }

/-- The descriptor table of section 3 of the vectors, as bytes. -/
def gdt : List Byte :=
  [0, 0, 0, 0, 0, 0, 0, 0,
    0xFF, 0xFF, 0, 0, 0, 0x9A, 0, 0,
    0xFF, 0x0F, 0, 0, 1, 0x92, 0, 0,
    0xFF, 0xFF, 0, 0, 0, 0x90, 0, 0,
    0xFF, 0xFF, 0, 0, 2, 0xF2, 0, 0,
    0, 0, 0, 0, 0, 0x12, 0, 0,
    0xFF, 0xFF, 0, 0, 0, 0x98, 0, 0]

/-- The descriptors of the outer-level example of rule R406: 18H and 20H of level 3. -/
def outerGdt : List Byte :=
  [0, 0, 0, 0, 0, 0, 0, 0, 0, 0, 0, 0, 0, 0, 0, 0, 0, 0, 0, 0, 0, 0, 0, 0,
    0xFF, 0xFF, 0, 0, 0, 0xFA, 0, 0,
    0xFF, 0xFF, 0, 0, 0, 0xF2, 0, 0]

def withTable (t : List Byte) (s : State) : State := put 0x5000 t { s with gdtr := ⟨0x37, 0x5000⟩ }

/-- A TSS whose I/O map holds the byte for the ports from 20H on. -/
def withTss (b : Byte) (s : State) : State :=
  put 0x606C [b] (put 0x6066 [0x68, 0] { s with taskr := ⟨0x30, 0x6000, 0x80⟩ })

/-- The vectors' start state with changes, and an instruction at an address, EIP there. -/
def code (ip : Word) (a : Nat) (bs : List Byte) (changes : List (State → State)) : State :=
  { put a bs (changes.foldl (fun s f => f s) base) with eip := ip }

/-- What is seen of the state after one step. -/
def after {α : Type} (s : State) (f : State → α) : Option α :=
  match step s with
  | .next t => some (f t)
  | _ => none

/-- One step ends so. -/
def stops (s : State) (r : Result) : Bool :=
  match step s, r with
  | .fault f, .fault g => decide (f = g)
  | .refused f, .refused g => decide (f = g)
  | _, _ => false

def isNext : Result → Bool
  | .next _ => true
  | _ => false

def bytesAt (s : State) (a n : Nat) : List Byte := (List.range n).map fun i => s.mem.read (a + i)

def status (s : State) : List Bool := [s.flags.cf, s.flags.ofl, s.flags.sf, s.flags.zf, s.flags.af, s.flags.pf]

/-- The words decode to the instructions, with nothing left, under one size for operands and addresses. -/
def readAll (sz : Size) (ws : List (List Byte × Instr)) : Bool :=
  ws.all fun w =>
    match decode sz sz w.1 with
    | .ok (i, []) => decide (i = w.2)
    | _ => false

/-- The bytes are rejected, by this name. -/
def rejects (sz : Size) (bs : List Byte) (why : Reject) : Bool :=
  match decode sz sz bs with
  | .error (.rejected w) => decide (w = why)
  | _ => false

/-! ### Well-formedness: a term that each check refuses -/

theorem test_wf_refuses_a_wide_immediate : Instr.wf .s16 .s16 (.pushImmv 0x10000) = false := by decide
theorem test_wf_refuses_a_wide_displacement : Instr.wf .s16 .s16 (.jz (.near 0x10000)) = false := by decide
theorem test_wf_refuses_a_wide_offset : Instr.wf .s32 .s16 (.movAlMoffs 0x10000) = false := by decide
theorem test_wf_refuses_16_bit_addressing_at_32 : Mem.wf .s32 (.base16 .bx .none) = false := by decide
theorem test_wf_refuses_a_direct_offset_of_the_other_size :
    Mem.wf .s32 (.direct16 0) = false ∧ Mem.wf .s16 (.direct32 0) = false := by decide
theorem test_wf_refuses_32_bit_addressing_at_16 :
    Mem.wf .s16 (.base32 .ebx .none) = false ∧ Mem.wf .s16 (.sib .x1 none .ebx .none) = false ∧
      Mem.wf .s16 (.sibNoBase .x1 none 0) = false := by decide
theorem test_wf_refuses_bp_without_displacement : Mem.wf .s16 (.base16 .bp .none) = false := by decide
theorem test_wf_refuses_ebp_without_displacement :
    Mem.wf .s32 (.base32 .ebp .none) = false ∧ Mem.wf .s32 (.sib .x1 none .ebp .none) = false := by decide
theorem test_wf_refuses_esp_without_sib : Mem.wf .s32 (.base32 .esp (.d8 0)) = false := by decide
theorem test_wf_refuses_esp_as_index : Mem.wf .s32 (.sib .x2 (some .esp) .eax .none) = false := by decide
theorem test_wf_refuses_a_scale_without_index :
    Mem.wf .s32 (.sib .x2 none .eax .none) = false ∧ Mem.wf .s32 (.sibNoBase .x4 none 0) = false := by decide
theorem test_wf_refuses_exchange_with_the_accumulator : Instr.wf .s16 .s16 (.xchgAxReg .eax) = false := by decide
theorem test_wf_refuses_a_move_into_cs : Instr.wf .s16 .s16 (.movSregRm16 (.reg .eax) .cs) = false := by decide

/-! ### Decoding: one word of every row of the opcode table, laid out from its match and mask and the field tables -/

theorem test_decode_rows_0_to_43_16 : readAll .s16 [
    ([0x26], .segEs),
    ([0x36], .segSs),
    ([0x64], .segFs),
    ([0x66], .opsize),
    ([0xF0], .lock),
    ([0xF3], .rep),
    ([0x01, 0x24], .addRmvRv (.mem (.base16 .si .none)) .esp),
    ([0x03, 0xD1], .addRvRmv (.reg .ecx) .edx),
    ([0x05, 0x32, 0x11], .addAxImmv 0x1132),
    ([0x81, 0x46, 0xFE, 0x34, 0x11], .addRmvImmv (.mem (.base16 .bp (.d8 0xFE))) 0x1134),
    ([0x08, 0x26, 0x34, 0x12], .orRm8R8 (.mem (.direct16 0x1234)) .esp),
    ([0x0A, 0x91, 0x00, 0xF0], .orR8Rm8 (.mem (.base16 .bxdi (.d16 0xF000))) .edx),
    ([0x0C, 0x98], .orAlImm8 0x98),
    ([0x80, 0x0C, 0x9A], .orRm8Imm8 (.mem (.base16 .si .none)) 0x9A),
    ([0x83, 0xC9, 0x9C], .orRmvImm8 (.reg .ecx) 0x9C),
    ([0x11, 0x17], .adcRmvRv (.mem (.base16 .bx .none)) .edx),
    ([0x13, 0x46, 0xFE], .adcRvRmv (.mem (.base16 .bp (.d8 0xFE))) .eax),
    ([0x15, 0x44, 0x11], .adcAxImmv 0x1144),
    ([0x81, 0x91, 0x00, 0xF0, 0x46, 0x11], .adcRmvImmv (.mem (.base16 .bxdi (.d16 0xF000))) 0x1146),
    ([0x18, 0xD7], .sbbRm8R8 (.reg .edi) .edx),
    ([0x1A, 0x04], .sbbR8Rm8 (.mem (.base16 .si .none)) .eax),
    ([0x1C, 0xAA], .sbbAlImm8 0xAA)] = true := by decide

theorem test_decode_rows_0_to_43_32 : readAll .s32 [
    ([0x2E], .segCs),
    ([0x3E], .segDs),
    ([0x65], .segGs),
    ([0x67], .addrsize),
    ([0xF2], .repne),
    ([0x00, 0xCB], .addRm8R8 (.reg .ebx) .ecx),
    ([0x02, 0xBD, 0xF0, 0xFF, 0xFF, 0xFF], .addR8Rm8 (.mem (.base32 .ebp (.d32 0xFFFFFFF0))) .edi),
    ([0x04, 0x8F], .addAlImm8 0x8F),
    ([0x80, 0x84, 0x8E, 0x00, 0x01, 0x00, 0x00, 0x91], .addRm8Imm8 (.mem (.sib .x4 (some .ecx) .esi (.d32 0x100))) 0x91),
    ([0x83, 0x04, 0xD5, 0x00, 0x10, 0x00, 0x00, 0x93], .addRmvImm8 (.mem (.sibNoBase .x8 (some .edx) 0x1000)) 0x93),
    ([0x09, 0x3D, 0x78, 0x56, 0x34, 0x12], .orRmvRv (.mem (.direct32 0x12345678)) .edi),
    ([0x0B, 0x2C, 0x24], .orRvRmv (.mem (.sib .x1 none .esp .none)) .ebp),
    ([0x0D, 0x5D, 0x33, 0x22, 0x11], .orAxImmv 0x1122335D),
    ([0x81, 0x8D, 0xF0, 0xFF, 0xFF, 0xFF, 0x5F, 0x33, 0x22, 0x11], .orRmvImmv (.mem (.base32 .ebp (.d32 0xFFFFFFF0))) 0x1122335F),
    ([0x10, 0x78, 0x10], .adcRm8R8 (.mem (.base32 .eax (.d8 0x10))) .edi),
    ([0x12, 0xAC, 0x8E, 0x00, 0x01, 0x00, 0x00], .adcR8Rm8 (.mem (.sib .x4 (some .ecx) .esi (.d32 0x100))) .ebp),
    ([0x14, 0xA1], .adcAlImm8 0xA1),
    ([0x80, 0x15, 0x78, 0x56, 0x34, 0x12, 0xA3], .adcRm8Imm8 (.mem (.direct32 0x12345678)) 0xA3),
    ([0x83, 0x14, 0x24, 0xA5], .adcRmvImm8 (.mem (.sib .x1 none .esp .none)) 0xA5),
    ([0x19, 0xEB], .sbbRmvRv (.reg .ebx) .ebp),
    ([0x1B, 0x9D, 0xF0, 0xFF, 0xFF, 0xFF], .sbbRvRmv (.mem (.base32 .ebp (.d32 0xFFFFFFF0))) .ebx),
    ([0x1D, 0x6F, 0x33, 0x22, 0x11], .sbbAxImmv 0x1122336F)] = true := by decide

theorem test_decode_rows_44_to_87_16 : readAll .s16 [
    ([0x80, 0x1F, 0xAC], .sbbRm8Imm8 (.mem (.base16 .bx .none)) 0xAC),
    ([0x83, 0x5E, 0xFE, 0xAE], .sbbRmvImm8 (.mem (.base16 .bp (.d8 0xFE))) 0xAE),
    ([0x21, 0x06, 0x34, 0x12], .andRmvRv (.mem (.direct16 0x1234)) .eax),
    ([0x23, 0xB1, 0x00, 0xF0], .andRvRmv (.mem (.base16 .bxdi (.d16 0xF000))) .esi),
    ([0x25, 0x56, 0x11], .andAxImmv 0x1156),
    ([0x81, 0x24, 0x58, 0x11], .andRmvImmv (.mem (.base16 .si .none)) 0x1158),
    ([0x28, 0xC1], .subRm8R8 (.reg .ecx) .eax),
    ([0x2A, 0x37], .subR8Rm8 (.mem (.base16 .bx .none)) .esi),
    ([0x2C, 0xBC], .subAlImm8 0xBC),
    ([0x80, 0x2E, 0x34, 0x12, 0xBE], .subRm8Imm8 (.mem (.direct16 0x1234)) 0xBE),
    ([0x83, 0xA9, 0x00, 0xF0, 0xC0], .subRmvImm8 (.mem (.base16 .bxdi (.d16 0xF000))) 0xC0),
    ([0x31, 0xF7], .xorRmvRv (.reg .edi) .esi),
    ([0x33, 0x24], .xorRvRmv (.mem (.base16 .si .none)) .esp),
    ([0x35, 0x68, 0x11], .xorAxImmv 0x1168),
    ([0x81, 0x37, 0x6A, 0x11], .xorRmvImmv (.mem (.base16 .bx .none)) 0x116A),
    ([0x38, 0x76, 0xFE], .cmpRm8R8 (.mem (.base16 .bp (.d8 0xFE))) .esi),
    ([0x3A, 0x26, 0x34, 0x12], .cmpR8Rm8 (.mem (.direct16 0x1234)) .esp),
    ([0x3C, 0xCE], .cmpAlImm8 0xCE),
    ([0x80, 0xFF, 0xD0], .cmpRm8Imm8 (.reg .edi) 0xD0),
    ([0x83, 0x3C, 0xD2], .cmpRmvImm8 (.mem (.base16 .si .none)) 0xD2),
    ([0x07], .popEs),
    ([0x16], .pushSs)] = true := by decide

theorem test_decode_rows_44_to_87_32 : readAll .s32 [
    ([0x81, 0x9C, 0x8E, 0x00, 0x01, 0x00, 0x00, 0x71, 0x33, 0x22, 0x11], .sbbRmvImmv (.mem (.sib .x4 (some .ecx) .esi (.d32 0x100))) 0x11223371),
    ([0x20, 0x2C, 0xD5, 0x00, 0x10, 0x00, 0x00], .andRm8R8 (.mem (.sibNoBase .x8 (some .edx) 0x1000)) .ebp),
    ([0x22, 0x1D, 0x78, 0x56, 0x34, 0x12], .andR8Rm8 (.mem (.direct32 0x12345678)) .ebx),
    ([0x24, 0xB3], .andAlImm8 0xB3),
    ([0x80, 0xE3, 0xB5], .andRm8Imm8 (.reg .ebx) 0xB5),
    ([0x83, 0xA5, 0xF0, 0xFF, 0xFF, 0xFF, 0xB7], .andRmvImm8 (.mem (.base32 .ebp (.d32 0xFFFFFFF0))) 0xB7),
    ([0x29, 0x58, 0x10], .subRmvRv (.mem (.base32 .eax (.d8 0x10))) .ebx),
    ([0x2B, 0x8C, 0x8E, 0x00, 0x01, 0x00, 0x00], .subRvRmv (.mem (.sib .x4 (some .ecx) .esi (.d32 0x100))) .ecx),
    ([0x2D, 0x81, 0x33, 0x22, 0x11], .subAxImmv 0x11223381),
    ([0x81, 0x2D, 0x78, 0x56, 0x34, 0x12, 0x83, 0x33, 0x22, 0x11], .subRmvImmv (.mem (.direct32 0x12345678)) 0x11223383),
    ([0x30, 0x1C, 0x24], .xorRm8R8 (.mem (.sib .x1 none .esp .none)) .ebx),
    ([0x32, 0xCB], .xorR8Rm8 (.reg .ebx) .ecx),
    ([0x34, 0xC5], .xorAlImm8 0xC5),
    ([0x80, 0x70, 0x10, 0xC7], .xorRm8Imm8 (.mem (.base32 .eax (.d8 0x10))) 0xC7),
    ([0x83, 0xB4, 0x8E, 0x00, 0x01, 0x00, 0x00, 0xC9], .xorRmvImm8 (.mem (.sib .x4 (some .ecx) .esi (.d32 0x100))) 0xC9),
    ([0x39, 0x0C, 0xD5, 0x00, 0x10, 0x00, 0x00], .cmpRmvRv (.mem (.sibNoBase .x8 (some .edx) 0x1000)) .ecx),
    ([0x3B, 0x3D, 0x78, 0x56, 0x34, 0x12], .cmpRvRmv (.mem (.direct32 0x12345678)) .edi),
    ([0x3D, 0x93, 0x33, 0x22, 0x11], .cmpAxImmv 0x11223393),
    ([0x81, 0xFB, 0x95, 0x33, 0x22, 0x11], .cmpRmvImmv (.reg .ebx) 0x11223395),
    ([0x06], .pushEs),
    ([0x0E], .pushCs),
    ([0x17], .popSs)] = true := by decide

theorem test_decode_rows_88_to_131_16 : readAll .s16 [
    ([0x1E], .pushDs),
    ([0x27], .daa),
    ([0x37], .aaa),
    ([0xD4, 0x0A], .aam),
    ([0x40], .incReg .eax),
    ([0x56], .pushReg .esi),
    ([0x60], .pusha),
    ([0x62, 0x56, 0xFE], .bound (.base16 .bp (.d8 0xFE)) .edx),
    ([0x68, 0x8A, 0x11], .pushImmv 0x118A),
    ([0x6A, 0xEA], .pushImm8 0xEA),
    ([0x6C], .ins8),
    ([0x6E], .outs8),
    ([0x70, 0xF0], .jo (.short 0xF0)),
    ([0x72, 0xF2], .jb (.short 0xF2)),
    ([0x74, 0xF4], .jz (.short 0xF4)),
    ([0x76, 0xF6], .jbe (.short 0xF6)),
    ([0x78, 0xF8], .js (.short 0xF8)),
    ([0x7A, 0xFA], .jp (.short 0xFA)),
    ([0x7C, 0xFC], .jl (.short 0xFC)),
    ([0x7E, 0xFE], .jle (.short 0xFE)),
    ([0x84, 0x07], .testRm8R8 (.mem (.base16 .bx .none)) .eax),
    ([0x86, 0x76, 0xFE], .xchgRm8R8 (.mem (.base16 .bp (.d8 0xFE))) .esi)] = true := by decide

theorem test_decode_rows_88_to_131_32 : readAll .s32 [
    ([0x1F], .popDs),
    ([0x2F], .das),
    ([0x3F], .aas),
    ([0xD5, 0x0A], .aad),
    ([0x4B], .decReg .ebx),
    ([0x59], .popReg .ecx),
    ([0x61], .popa),
    ([0x63, 0x2C, 0xD5, 0x00, 0x10, 0x00, 0x00], .arpl (.mem (.sibNoBase .x8 (some .edx) 0x1000)) .ebp),
    ([0x69, 0x1D, 0x78, 0x56, 0x34, 0x12, 0xAD, 0x33, 0x22, 0x11], .imulRvRmvImmv (.mem (.direct32 0x12345678)) .ebx 0x112233AD),
    ([0x6B, 0x0C, 0x24, 0xEB], .imulRvRmvImm8 (.mem (.sib .x1 none .esp .none)) .ecx 0xEB),
    ([0x6D], .insv),
    ([0x6F], .outsv),
    ([0x71, 0xF1], .jno (.short 0xF1)),
    ([0x73, 0xF3], .jnb (.short 0xF3)),
    ([0x75, 0xF5], .jnz (.short 0xF5)),
    ([0x77, 0xF7], .jnbe (.short 0xF7)),
    ([0x79, 0xF9], .jns (.short 0xF9)),
    ([0x7B, 0xFB], .jnp (.short 0xFB)),
    ([0x7D, 0xFD], .jnl (.short 0xFD)),
    ([0x7F, 0xFF], .jnle (.short 0xFF)),
    ([0x85, 0x9C, 0x8E, 0x00, 0x01, 0x00, 0x00], .testRmvRv (.mem (.sib .x4 (some .ecx) .esi (.d32 0x100))) .ebx),
    ([0x87, 0x0C, 0xD5, 0x00, 0x10, 0x00, 0x00], .xchgRmvRv (.mem (.sibNoBase .x8 (some .edx) 0x1000)) .ecx)] = true := by decide

theorem test_decode_rows_132_to_175_16 : readAll .s16 [
    ([0x88, 0x26, 0x34, 0x12], .movRm8R8 (.mem (.direct16 0x1234)) .esp),
    ([0x8A, 0x91, 0x00, 0xF0], .movR8Rm8 (.mem (.base16 .bxdi (.d16 0xF000))) .edx),
    ([0x8C, 0xE7], .movRm16Sreg (.reg .edi) .fs),
    ([0x8E, 0x24], .movSregRm16 (.mem (.base16 .si .none)) .fs),
    ([0x90], .nop),
    ([0x98], .cbw),
    ([0x9A, 0xB2, 0x11, 0xCD, 0xAB], .callPtr 0x11B2 0xABCD),
    ([0x9C], .pushf),
    ([0x9E], .sahf),
    ([0xA0, 0xB8, 0x11], .movAlMoffs 0x11B8),
    ([0xA2, 0xBA, 0x11], .movMoffsAl 0x11BA),
    ([0xA4], .movs8),
    ([0xA6], .cmps8),
    ([0xA8, 0x1E], .testAlImm8 0x1E),
    ([0xAA], .stos8),
    ([0xAC], .lods8),
    ([0xAE], .scas8),
    ([0xB2, 0x26], .movReg8Imm8 .edx 0x26),
    ([0xC0, 0xC1, 0x28], .rolRm8 (.reg .ecx) (.imm8 0x28)),
    ([0xD0, 0x07], .rolRm8 (.mem (.base16 .bx .none)) .one),
    ([0xD2, 0x46, 0xFE], .rolRm8 (.mem (.base16 .bp (.d8 0xFE))) .cl),
    ([0xC0, 0x0E, 0x34, 0x12, 0x2E], .rorRm8 (.mem (.direct16 0x1234)) (.imm8 0x2E))] = true := by decide

theorem test_decode_rows_132_to_175_32 : readAll .s32 [
    ([0x89, 0x3D, 0x78, 0x56, 0x34, 0x12], .movRmvRv (.mem (.direct32 0x12345678)) .edi),
    ([0x8B, 0x2C, 0x24], .movRvRmv (.mem (.sib .x1 none .esp .none)) .ebp),
    ([0x8D, 0x1C, 0xD5, 0x00, 0x10, 0x00, 0x00], .lea (.sibNoBase .x8 (some .edx) 0x1000) .ebx),
    ([0x8F, 0x85, 0xF0, 0xFF, 0xFF, 0xFF], .popRm (.mem (.base32 .ebp (.d32 0xFFFFFFF0)))),
    ([0x97], .xchgAxReg .edi),
    ([0x99], .cwd),
    ([0x9B], .wait),
    ([0x9D], .popf),
    ([0x9F], .lahf),
    ([0xA1, 0xDB, 0x33, 0x22, 0x11], .movAxMoffs 0x112233DB),
    ([0xA3, 0xDD, 0x33, 0x22, 0x11], .movMoffsAx 0x112233DD),
    ([0xA5], .movsv),
    ([0xA7], .cmpsv),
    ([0xA9, 0xE3, 0x33, 0x22, 0x11], .testAxImmv 0x112233E3),
    ([0xAB], .stosv),
    ([0xAD], .lodsv),
    ([0xAF], .scasv),
    ([0xBD, 0xEB, 0x33, 0x22, 0x11], .movRegvImmv .ebp 0x112233EB),
    ([0xC1, 0x40, 0x10, 0x29], .rolRmv (.mem (.base32 .eax (.d8 0x10))) (.imm8 0x29)),
    ([0xD1, 0x84, 0x8E, 0x00, 0x01, 0x00, 0x00], .rolRmv (.mem (.sib .x4 (some .ecx) .esi (.d32 0x100))) .one),
    ([0xD3, 0x04, 0xD5, 0x00, 0x10, 0x00, 0x00], .rolRmv (.mem (.sibNoBase .x8 (some .edx) 0x1000)) .cl),
    ([0xC1, 0x0D, 0x78, 0x56, 0x34, 0x12, 0x2F], .rorRmv (.mem (.direct32 0x12345678)) (.imm8 0x2F))] = true := by decide

theorem test_decode_rows_176_to_219_16 : readAll .s16 [
    ([0xD0, 0x89, 0x00, 0xF0], .rorRm8 (.mem (.base16 .bxdi (.d16 0xF000))) .one),
    ([0xD2, 0xCF], .rorRm8 (.reg .edi) .cl),
    ([0xC0, 0x14, 0x34], .rclRm8 (.mem (.base16 .si .none)) (.imm8 0x34)),
    ([0xD0, 0xD1], .rclRm8 (.reg .ecx) .one),
    ([0xD2, 0x17], .rclRm8 (.mem (.base16 .bx .none)) .cl),
    ([0xC0, 0x5E, 0xFE, 0x3A], .rcrRm8 (.mem (.base16 .bp (.d8 0xFE))) (.imm8 0x3A)),
    ([0xD0, 0x1E, 0x34, 0x12], .rcrRm8 (.mem (.direct16 0x1234)) .one),
    ([0xD2, 0x99, 0x00, 0xF0], .rcrRm8 (.mem (.base16 .bxdi (.d16 0xF000))) .cl),
    ([0xC0, 0xE7, 0x40], .shlRm8 (.reg .edi) (.imm8 0x40)),
    ([0xD0, 0x24], .shlRm8 (.mem (.base16 .si .none)) .one),
    ([0xD2, 0xE1], .shlRm8 (.reg .ecx) .cl),
    ([0xC0, 0x2F, 0x46], .shrRm8 (.mem (.base16 .bx .none)) (.imm8 0x46)),
    ([0xD0, 0x6E, 0xFE], .shrRm8 (.mem (.base16 .bp (.d8 0xFE))) .one),
    ([0xD2, 0x2E, 0x34, 0x12], .shrRm8 (.mem (.direct16 0x1234)) .cl),
    ([0xC0, 0xB9, 0x00, 0xF0, 0x4C], .sarRm8 (.mem (.base16 .bxdi (.d16 0xF000))) (.imm8 0x4C)),
    ([0xD0, 0xFF], .sarRm8 (.reg .edi) .one),
    ([0xD2, 0x3C], .sarRm8 (.mem (.base16 .si .none)) .cl),
    ([0xC2, 0x34, 0x12], .retNearImm 0x1234),
    ([0xC4, 0x66, 0xFE], .les (.base16 .bp (.d8 0xFE)) .esp),
    ([0xC6, 0x46, 0xFE, 0x56], .movRm8Imm8 (.mem (.base16 .bp (.d8 0xFE))) 0x56),
    ([0xC8, 0x34, 0x12, 0x05], .enter 0x1234 5),
    ([0xCA, 0x34, 0x12], .retFarImm 0x1234)] = true := by decide

theorem test_decode_rows_176_to_219_32 : readAll .s32 [
    ([0xD1, 0x0C, 0x24], .rorRmv (.mem (.sib .x1 none .esp .none)) .one),
    ([0xD3, 0xCB], .rorRmv (.reg .ebx) .cl),
    ([0xC1, 0x95, 0xF0, 0xFF, 0xFF, 0xFF, 0x35], .rclRmv (.mem (.base32 .ebp (.d32 0xFFFFFFF0))) (.imm8 0x35)),
    ([0xD1, 0x50, 0x10], .rclRmv (.mem (.base32 .eax (.d8 0x10))) .one),
    ([0xD3, 0x94, 0x8E, 0x00, 0x01, 0x00, 0x00], .rclRmv (.mem (.sib .x4 (some .ecx) .esi (.d32 0x100))) .cl),
    ([0xC1, 0x1C, 0xD5, 0x00, 0x10, 0x00, 0x00, 0x3B], .rcrRmv (.mem (.sibNoBase .x8 (some .edx) 0x1000)) (.imm8 0x3B)),
    ([0xD1, 0x1D, 0x78, 0x56, 0x34, 0x12], .rcrRmv (.mem (.direct32 0x12345678)) .one),
    ([0xD3, 0x1C, 0x24], .rcrRmv (.mem (.sib .x1 none .esp .none)) .cl),
    ([0xC1, 0xE3, 0x41], .shlRmv (.reg .ebx) (.imm8 0x41)),
    ([0xD1, 0xA5, 0xF0, 0xFF, 0xFF, 0xFF], .shlRmv (.mem (.base32 .ebp (.d32 0xFFFFFFF0))) .one),
    ([0xD3, 0x60, 0x10], .shlRmv (.mem (.base32 .eax (.d8 0x10))) .cl),
    ([0xC1, 0xAC, 0x8E, 0x00, 0x01, 0x00, 0x00, 0x47], .shrRmv (.mem (.sib .x4 (some .ecx) .esi (.d32 0x100))) (.imm8 0x47)),
    ([0xD1, 0x2C, 0xD5, 0x00, 0x10, 0x00, 0x00], .shrRmv (.mem (.sibNoBase .x8 (some .edx) 0x1000)) .one),
    ([0xD3, 0x2D, 0x78, 0x56, 0x34, 0x12], .shrRmv (.mem (.direct32 0x12345678)) .cl),
    ([0xC1, 0x3C, 0x24, 0x4D], .sarRmv (.mem (.sib .x1 none .esp .none)) (.imm8 0x4D)),
    ([0xD1, 0xFB], .sarRmv (.reg .ebx) .one),
    ([0xD3, 0xBD, 0xF0, 0xFF, 0xFF, 0xFF], .sarRmv (.mem (.base32 .ebp (.d32 0xFFFFFFF0))) .cl),
    ([0xC3], .retNear),
    ([0xC5, 0x3C, 0x24], .lds (.sib .x1 none .esp .none) .edi),
    ([0xC7, 0x04, 0xD5, 0x00, 0x10, 0x00, 0x00, 0x1B, 0x34, 0x22, 0x11], .movRmvImmv (.mem (.sibNoBase .x8 (some .edx) 0x1000)) 0x1122341B),
    ([0xC9], .leave),
    ([0xCB], .retFar)] = true := by decide

theorem test_decode_rows_220_to_263_16 : readAll .s16 [
    ([0xCC], .int3),
    ([0xCE], .into),
    ([0xD7], .xlat),
    ([0xE0, 0x62], .loopne 0x62),
    ([0xE2, 0x64], .loop 0x64),
    ([0xE4, 0x66], .inAlImm8 0x66),
    ([0xE6, 0x68], .outImm8Al 0x68),
    ([0xE8, 0x0C, 0x12], .callRel 0x120C),
    ([0xEA, 0x0E, 0x12, 0xCD, 0xAB], .jmpPtr 0x120E 0xABCD),
    ([0xEC], .inAlDx),
    ([0xEE], .outDxAl),
    ([0xF4], .hlt),
    ([0xF6, 0x06, 0x34, 0x12, 0x74], .testRm8Imm8 (.mem (.direct16 0x1234)) 0x74),
    ([0xF6, 0x99, 0x00, 0xF0], .negRm8 (.mem (.base16 .bxdi (.d16 0xF000)))),
    ([0xF6, 0xEF], .imulRm8 (.reg .edi)),
    ([0xF6, 0x3C], .idivRm8 (.mem (.base16 .si .none))),
    ([0xF7, 0xD1], .notRmv (.reg .ecx)),
    ([0xF7, 0x27], .mulRmv (.mem (.base16 .bx .none))),
    ([0xF7, 0x76, 0xFE], .divRmv (.mem (.base16 .bp (.d8 0xFE)))),
    ([0xF8], .clc),
    ([0xFA], .cli),
    ([0xFC], .cld)] = true := by decide

theorem test_decode_rows_220_to_263_32 : readAll .s32 [
    ([0xCD, 0x5D], .intImm8 0x5D),
    ([0xCF], .iret),
    ([0xDD, 0x58, 0x10], .esc 5 3 (.mem (.base32 .eax (.d8 0x10)))),
    ([0xE1, 0x63], .loope 0x63),
    ([0xE3, 0x65], .jcxz 0x65),
    ([0xE5, 0x67], .inAxImm8 0x67),
    ([0xE7, 0x69], .outImm8Ax 0x69),
    ([0xE9, 0x2F, 0x34, 0x22, 0x11], .jmpRel 0x1122342F),
    ([0xEB, 0x6D], .jmpRel8 0x6D),
    ([0xED], .inAxDx),
    ([0xEF], .outDxAx),
    ([0xF5], .cmc),
    ([0xF6, 0x15, 0x78, 0x56, 0x34, 0x12], .notRm8 (.mem (.direct32 0x12345678))),
    ([0xF6, 0x24, 0x24], .mulRm8 (.mem (.sib .x1 none .esp .none))),
    ([0xF6, 0xF3], .divRm8 (.reg .ebx)),
    ([0xF7, 0x85, 0xF0, 0xFF, 0xFF, 0xFF, 0x3F, 0x34, 0x22, 0x11], .testRmvImmv (.mem (.base32 .ebp (.d32 0xFFFFFFF0))) 0x1122343F),
    ([0xF7, 0x58, 0x10], .negRmv (.mem (.base32 .eax (.d8 0x10)))),
    ([0xF7, 0xAC, 0x8E, 0x00, 0x01, 0x00, 0x00], .imulRmv (.mem (.sib .x4 (some .ecx) .esi (.d32 0x100)))),
    ([0xF7, 0x3C, 0xD5, 0x00, 0x10, 0x00, 0x00], .idivRmv (.mem (.sibNoBase .x8 (some .edx) 0x1000))),
    ([0xF9], .stc),
    ([0xFB], .sti),
    ([0xFD], .std)] = true := by decide

theorem test_decode_rows_264_to_307_16 : readAll .s16 [
    ([0xFE, 0x04], .incRm8 (.mem (.base16 .si .none))),
    ([0xFF, 0xC1], .incRmv (.reg .ecx)),
    ([0xFF, 0x17], .callRmv (.mem (.base16 .bx .none))),
    ([0xFF, 0x66, 0xFE], .jmpRmv (.mem (.base16 .bp (.d8 0xFE)))),
    ([0xFF, 0x36, 0x34, 0x12], .pushRm (.mem (.direct16 0x1234))),
    ([0x0F, 0x00, 0x89, 0x00, 0xF0], .str (.mem (.base16 .bxdi (.d16 0xF000)))),
    ([0x0F, 0x00, 0xDF], .ltr (.reg .edi)),
    ([0x0F, 0x00, 0x2C], .verw (.mem (.base16 .si .none))),
    ([0x0F, 0x01, 0x0F], .sidt (.mem (.base16 .bx .none))),
    ([0x0F, 0x01, 0x5E, 0xFE], .lidt (.base16 .bp (.d8 0xFE))),
    ([0x0F, 0x01, 0x76, 0xFE], .lmsw (.mem (.base16 .bp (.d8 0xFE)))),
    ([0x0F, 0x03, 0x16, 0x34, 0x12], .lsl (.mem (.direct16 0x1234)) .edx),
    ([0x0F, 0x20, 0xD0], .movR32Cr .cr2 .eax),
    ([0x0F, 0x22, 0xD6], .movCrR32 .cr2 .esi),
    ([0x0F, 0x24, 0xF4], .movR32Tr .tr6 .esp),
    ([0x0F, 0x80, 0x48, 0x12], .jo (.near 0x1248)),
    ([0x0F, 0x82, 0x4A, 0x12], .jb (.near 0x124A)),
    ([0x0F, 0x84, 0x4C, 0x12], .jz (.near 0x124C)),
    ([0x0F, 0x86, 0x4E, 0x12], .jbe (.near 0x124E)),
    ([0x0F, 0x88, 0x50, 0x12], .js (.near 0x1250)),
    ([0x0F, 0x8A, 0x52, 0x12], .jp (.near 0x1252)),
    ([0x0F, 0x8C, 0x54, 0x12], .jl (.near 0x1254))] = true := by decide

theorem test_decode_rows_264_to_307_32 : readAll .s32 [
    ([0xFE, 0x8D, 0xF0, 0xFF, 0xFF, 0xFF], .decRm8 (.mem (.base32 .ebp (.d32 0xFFFFFFF0)))),
    ([0xFF, 0x48, 0x10], .decRmv (.mem (.base32 .eax (.d8 0x10)))),
    ([0xFF, 0x1C, 0xD5, 0x00, 0x10, 0x00, 0x00], .callMem (.sibNoBase .x8 (some .edx) 0x1000)),
    ([0xFF, 0x2D, 0x78, 0x56, 0x34, 0x12], .jmpMem (.direct32 0x12345678)),
    ([0x0F, 0x00, 0x05, 0x78, 0x56, 0x34, 0x12], .sldt (.mem (.direct32 0x12345678))),
    ([0x0F, 0x00, 0x14, 0x24], .lldt (.mem (.sib .x1 none .esp .none))),
    ([0x0F, 0x00, 0xE3], .verr (.reg .ebx)),
    ([0x0F, 0x01, 0x84, 0x8E, 0x00, 0x01, 0x00, 0x00], .sgdt (.mem (.sib .x4 (some .ecx) .esi (.d32 0x100)))),
    ([0x0F, 0x01, 0x14, 0xD5, 0x00, 0x10, 0x00, 0x00], .lgdt (.sibNoBase .x8 (some .edx) 0x1000)),
    ([0x0F, 0x01, 0xA4, 0x8E, 0x00, 0x01, 0x00, 0x00], .smsw (.mem (.sib .x4 (some .ecx) .esi (.d32 0x100)))),
    ([0x0F, 0x02, 0x3C, 0xD5, 0x00, 0x10, 0x00, 0x00], .lar (.mem (.sibNoBase .x8 (some .edx) 0x1000)) .edi),
    ([0x0F, 0x06], .clts),
    ([0x0F, 0x21, 0xFB], .movR32Dr .dr7 .ebx),
    ([0x0F, 0x23, 0xF9], .movDrR32 .dr7 .ecx),
    ([0x0F, 0x26, 0xF7], .movTrR32 .tr6 .edi),
    ([0x0F, 0x81, 0x6B, 0x34, 0x22, 0x11], .jno (.near 0x1122346B)),
    ([0x0F, 0x83, 0x6D, 0x34, 0x22, 0x11], .jnb (.near 0x1122346D)),
    ([0x0F, 0x85, 0x6F, 0x34, 0x22, 0x11], .jnz (.near 0x1122346F)),
    ([0x0F, 0x87, 0x71, 0x34, 0x22, 0x11], .jnbe (.near 0x11223471)),
    ([0x0F, 0x89, 0x73, 0x34, 0x22, 0x11], .jns (.near 0x11223473)),
    ([0x0F, 0x8B, 0x75, 0x34, 0x22, 0x11], .jnp (.near 0x11223475)),
    ([0x0F, 0x8D, 0x77, 0x34, 0x22, 0x11], .jnl (.near 0x11223477))] = true := by decide

theorem test_decode_rows_308_to_351_16 : readAll .s16 [
    ([0x0F, 0x8E, 0x56, 0x12], .jle (.near 0x1256)),
    ([0x0F, 0x90, 0x07], .seto (.mem (.base16 .bx .none))),
    ([0x0F, 0x92, 0x46, 0xFE], .setb (.mem (.base16 .bp (.d8 0xFE)))),
    ([0x0F, 0x94, 0x06, 0x34, 0x12], .setz (.mem (.direct16 0x1234))),
    ([0x0F, 0x96, 0x81, 0x00, 0xF0], .setbe (.mem (.base16 .bxdi (.d16 0xF000)))),
    ([0x0F, 0x98, 0xC7], .sets (.reg .edi)),
    ([0x0F, 0x9A, 0x04], .setp (.mem (.base16 .si .none))),
    ([0x0F, 0x9C, 0xC1], .setl (.reg .ecx)),
    ([0x0F, 0x9E, 0x07], .setle (.mem (.base16 .bx .none))),
    ([0x0F, 0xA0], .pushFs),
    ([0x0F, 0xA3, 0x06, 0x34, 0x12], .btRmvRv (.mem (.direct16 0x1234)) .eax),
    ([0x0F, 0xA5, 0xB1, 0x00, 0xF0], .shldCl (.mem (.base16 .bxdi (.d16 0xF000))) .esi),
    ([0x0F, 0xA9], .popGs),
    ([0x0F, 0xAC, 0x14, 0xCE], .shrdImm8 (.mem (.base16 .si .none)) .edx 0xCE),
    ([0x0F, 0xAF, 0xC1], .imulRvRmv (.reg .ecx) .eax),
    ([0x0F, 0xB3, 0x37], .btrRmvRv (.mem (.base16 .bx .none)) .esi),
    ([0x0F, 0xB5, 0x27], .lgs (.base16 .bx .none) .esp),
    ([0x0F, 0xB7, 0x16, 0x34, 0x12], .movzx16 (.mem (.direct16 0x1234)) .edx),
    ([0x0F, 0xBA, 0xA9, 0x00, 0xF0, 0xD8], .btsRmvImm8 (.mem (.base16 .bxdi (.d16 0xF000))) 0xD8),
    ([0x0F, 0xBA, 0xFF, 0xDA], .btcRmvImm8 (.reg .edi) 0xDA),
    ([0x0F, 0xBC, 0x24], .bsf (.mem (.base16 .si .none)) .esp),
    ([0x0F, 0xBE, 0xD1], .movsx8 (.reg .ecx) .edx)] = true := by decide

theorem test_decode_rows_308_to_351_32 : readAll .s32 [
    ([0x0F, 0x8F, 0x79, 0x34, 0x22, 0x11], .jnle (.near 0x11223479)),
    ([0x0F, 0x91, 0x84, 0x8E, 0x00, 0x01, 0x00, 0x00], .setno (.mem (.sib .x4 (some .ecx) .esi (.d32 0x100)))),
    ([0x0F, 0x93, 0x04, 0xD5, 0x00, 0x10, 0x00, 0x00], .setnb (.mem (.sibNoBase .x8 (some .edx) 0x1000))),
    ([0x0F, 0x95, 0x05, 0x78, 0x56, 0x34, 0x12], .setnz (.mem (.direct32 0x12345678))),
    ([0x0F, 0x97, 0x04, 0x24], .setnbe (.mem (.sib .x1 none .esp .none))),
    ([0x0F, 0x99, 0xC3], .setns (.reg .ebx)),
    ([0x0F, 0x9B, 0x85, 0xF0, 0xFF, 0xFF, 0xFF], .setnp (.mem (.base32 .ebp (.d32 0xFFFFFFF0)))),
    ([0x0F, 0x9D, 0x40, 0x10], .setnl (.mem (.base32 .eax (.d8 0x10)))),
    ([0x0F, 0x9F, 0x84, 0x8E, 0x00, 0x01, 0x00, 0x00], .setnle (.mem (.sib .x4 (some .ecx) .esi (.d32 0x100)))),
    ([0x0F, 0xA1], .popFs),
    ([0x0F, 0xA4, 0x1D, 0x78, 0x56, 0x34, 0x12, 0xC9], .shldImm8 (.mem (.direct32 0x12345678)) .ebx 0xC9),
    ([0x0F, 0xA8], .pushGs),
    ([0x0F, 0xAB, 0xFB], .btsRmvRv (.reg .ebx) .edi),
    ([0x0F, 0xAD, 0xAD, 0xF0, 0xFF, 0xFF, 0xFF], .shrdCl (.mem (.base32 .ebp (.d32 0xFFFFFFF0))) .ebp),
    ([0x0F, 0xB2, 0x58, 0x10], .lss (.base32 .eax (.d8 0x10)) .ebx),
    ([0x0F, 0xB4, 0x8C, 0x8E, 0x00, 0x01, 0x00, 0x00], .lfs (.sib .x4 (some .ecx) .esi (.d32 0x100)) .ecx),
    ([0x0F, 0xB6, 0x3C, 0xD5, 0x00, 0x10, 0x00, 0x00], .movzx8 (.mem (.sibNoBase .x8 (some .edx) 0x1000)) .edi),
    ([0x0F, 0xBA, 0x25, 0x78, 0x56, 0x34, 0x12, 0xD7], .btRmvImm8 (.mem (.direct32 0x12345678)) 0xD7),
    ([0x0F, 0xBA, 0x34, 0x24, 0xD9], .btrRmvImm8 (.mem (.sib .x1 none .esp .none)) 0xD9),
    ([0x0F, 0xBB, 0xCB], .btcRmvRv (.reg .ebx) .ecx),
    ([0x0F, 0xBD, 0xBD, 0xF0, 0xFF, 0xFF, 0xFF], .bsr (.mem (.base32 .ebp (.d32 0xFFFFFFF0))) .edi),
    ([0x0F, 0xBF, 0x68, 0x10], .movsx16 (.mem (.base32 .eax (.d8 0x10))) .ebp)] = true := by decide

/-! ### Bytes that are no instruction (rules R114, R126, R129, R132, R134, R146, R206, R209) -/

theorem test_rejects_reserved_opcodes :
    rejects .s16 [0xD6] .reservedOpcode = true ∧ rejects .s16 [0x0F, 0xFF] .reservedOpcode = true ∧
      rejects .s16 [0xD0, 0xF0] .reservedOpcode = true := by decide
theorem test_rejects_a_second_byte_of_aam : rejects .s16 [0xD4, 5] .reservedSecondByte = true := by decide
theorem test_rejects_sreg_6 : rejects .s16 [0x8C, 0xF0] .reservedSegmentRegister = true := by decide
theorem test_rejects_a_move_into_cs : rejects .s16 [0x8E, 0xC8] .moveToCs = true := by decide
theorem test_rejects_cr1 : rejects .s16 [0x0F, 0x20, 0xC8] .reservedSpecialRegister = true := by decide
theorem test_rejects_a_special_move_of_memory : rejects .s16 [0x0F, 0x20, 0x00] .registerOperandRequired = true := by
  decide
theorem test_rejects_lds_of_a_register : rejects .s16 [0xC5, 0xC0] .memoryOperandRequired = true := by decide
theorem test_rejects_a_scale_without_index : rejects .s32 [0x8B, 0x04, 0x64] .undefinedEffectiveAddress = true := by
  decide
theorem test_decode_asks_for_more_bytes : (match decode .s16 .s16 [0x8B] with
    | .error .short => true
    | _ => false) = true := by decide

/-! ### One step each, with the results of spec/95_test_vectors.md; a docstring names the vector -/

/-- E14. -/
theorem test_an_override_beats_the_default_segment :
    after (code 0x100 0x100 [0x26, 0x8B, 0x46, 0x00] [addressRegs, setReal .es 0x100, setReal .ss 0x200, put 0x4000
        [0x34, 0x12]]) (fun t => (t.reg .w16 .eax, t.eip)) =
      some (0x1234, 0x104) := by decide

/-- E17. -/
theorem test_both_size_prefixes :
    after (code 0x100 0x100 [0x66, 0x67, 0x8B, 0x04, 0x24] [addressRegs, put 0x2100 [0x34, 0x12, 0x78, 0x56], setReal
        .ss 0x10]) (fun t => (t.regs.eax, t.eip)) =
      some (0x56781234, 0x105) := by decide

/-- E18. -/
theorem test_a_second_prefix_of_one_group_is_refused : stops (code 0x100 0x100 [0x66, 0x66, 0x90] []) (.refused
        .duplicatePrefix) = true := by decide

/-- E19. -/
theorem test_lock_before_a_register_destination_is_refused : stops (code 0x100 0x100 [0xF0, 0x89, 0xD8] []) (.refused
        .lockNotAccepted) = true := by decide

/-- LOCKMEM. -/
theorem test_lock_before_a_memory_destination :
    after (code 0x100 0x100 [0xF0, 0x80, 0x2F, 0x01] [setr .w16 .ebx 0x200]) (fun t => (bytesAt t 0x200 1, t.eip)) =
      some ([0xFF], 0x104) := by decide

/-- A3. -/
theorem test_mov_rm_r_keeps_the_upper_half :
    after (code 0x100 0x100 [0x89, 0xD8] [setr .d32 .eax 0xFFFFFFFF, setr .d32 .ebx 0x12345678]) (fun t =>
        t.regs.eax) =
      some 0xFFFF5678 := by decide

/-- A4. -/
theorem test_mov_r8_rm8 :
    after (code 0x100 0x100 [0x8A, 0x07] [setr .w16 .ebx 0x0200, put 0x0200 [0x5A]]) (fun t => t.reg .b8 .eax) =
      some 0x5A := by decide

/-- A7. -/
theorem test_mov_eax_moffs :
    after (code 0x100 0x100 [0x66, 0xA1, 0x34, 0x12] [put 0x1234 [0x44, 0x33, 0x22, 0x11]]) (fun t => (t.regs.eax,
        t.eip)) =
      some (0x11223344, 0x104) := by decide

/-- A6. -/
theorem test_mov_moffs_ax :
    after (code 0x100 0x100 [0xA3, 0x00, 0x02] [setr .w16 .eax 0xBEEF]) (fun t => (bytesAt t 0x200 2, t.eip)) =
      some ([0xEF, 0xBE], 0x103) := by decide

/-- A8. -/
theorem test_mov_ah_imm8 :
    after (code 0x100 0x100 [0xB4, 0x7F] []) (fun t => t.regs.eax) =
      some 0x7F00 := by decide

/-- A12. -/
theorem test_mov_rm_imm32 :
    after (code 0x100 0x100 [0x66, 0xC7, 0x06, 0x00, 0x02, 0x78, 0x56, 0x34, 0x12] []) (fun t => (bytesAt t 0x200 4,
        t.eip)) =
      some ([0x78, 0x56, 0x34, 0x12], 0x109) := by decide

/-- A13. -/
theorem test_mov_ds_in_real_mode :
    after (code 0x100 0x100 [0x8E, 0xD8] [setr .w16 .eax 0x2000]) (fun t => (t.segs.ds.sel, t.segs.ds.base,
        t.segs.ds.limit, t.inhibit)) =
      some (0x2000, 0x20000, 0xFFFF, .none) := by decide

/-- A14. -/
theorem test_mov_ss_inhibits_interrupts :
    after (code 0x100 0x100 [0x8E, 0xD0] [setr .w16 .eax 0x3000]) (fun t => (t.segs.ss.sel, t.segs.ss.base,
        t.inhibit)) =
      some (0x3000, 0x30000, .all) := by decide

/-- A40. -/
theorem test_mov_ds_in_protected_mode :
    after (code 0x100 0x100 [0x8E, 0xD8] [inProtected, withTable gdt, setr .w16 .eax 0x10]) (fun t => (t.segs.ds.sel,
        t.segs.ds.valid, t.segs.ds.base, t.segs.ds.limit, t.segs.ds.rights.writable)) =
      some (0x10, true, 0x10000, 0xFFF, true) := by decide

/-- A46. -/
theorem test_mov_ds_of_a_selector_outside_the_table : stops (code 0x100 0x100 [0x8E, 0xD8] [inProtected, withTable
        gdt, setr .w16 .eax 0x38]) (.fault (.exception .generalProtection (some 0x38))) = true := by decide

/-- A56. -/
theorem test_mov_ss_of_a_segment_not_present : stops (code 0x100 0x100 [0x8E, 0xD0] [inProtected, withTable gdt, setr
        .w16 .eax 0x28]) (.fault (.exception .stackFault (some 0x28))) = true := by decide

/-- A15. -/
theorem test_mov_rm_ds :
    after (code 0x100 0x100 [0x8C, 0xD8] [setReal .ds 0x23, setr .d32 .eax 0xFFFFFFFF]) (fun t => t.regs.eax) =
      some 0xFFFF0023 := by decide

/-- A19. -/
theorem test_mov_cr0_enters_protected_mode :
    after (code 0x100 0x100 [0x0F, 0x22, 0xC0] [setr .d32 .eax 0x11]) (fun t => (t.cr0, t.cpl, t.eip)) =
      some (0x11, 0, 0x103) := by decide

/-- A20. -/
theorem test_mov_cr0_with_paging_is_refused : stops (code 0x100 0x100 [0x0F, 0x22, 0xC0] [setr .d32 .eax 0x80000001])
        (.refused .paging) = true := by decide

/-- A22. -/
theorem test_mov_from_cr0_at_level_3 : stops (code 0x100 0x100 [0x0F, 0x20, 0xC0] [inProtected, fun s => { s with cpl
        := 3 }]) (.fault (.exception .generalProtection (some 0x0))) = true := by decide

/-- A24. -/
theorem test_mov_from_dr6 :
    after (code 0x100 0x100 [0x0F, 0x21, 0xF3] [fun s => { s with dr6 := 0xFFFF0FF0 }]) (fun t => t.regs.ebx) =
      some 0xFFFF0FF0 := by decide

/-- A25. -/
theorem test_mov_to_dr0 :
    after (code 0x100 0x100 [0x0F, 0x23, 0xC0] [setr .d32 .eax 0x1000]) (fun t => t.dr0) =
      some 0x1000 := by decide

/-- A28. -/
theorem test_mov_to_a_test_register_is_discarded :
    after (code 0x100 0x100 [0x0F, 0x26, 0xF8] [setr .d32 .eax 0xFFF]) (fun t => (t.regs.eax, t.eip)) =
      some (0xFFF, 0x103) := by decide

/-- A31. -/
theorem test_movsx_at_16_bits :
    after (code 0x100 0x100 [0x0F, 0xBE, 0xC3] [setr .b8 .ebx 0x80, setr .d32 .eax 0xFFFF0000]) (fun t => t.regs.eax)
        =
      some 0xFFFFFF80 := by decide

/-- A36. -/
theorem test_movzx_of_ah :
    after (code 0x100 0x100 [0x0F, 0xB6, 0xC4] [setr .d32 .eax 0xFFFF80FF]) (fun t => t.regs.eax) =
      some 0xFFFF0080 := by decide

/-- A60. -/
theorem test_a_word_at_offset_FFFF : stops (code 0x100 0x100 [0x8B, 0x07] [setr .w16 .ebx 0xFFFF]) (.fault
        (.exception .generalProtection none)) = true := by decide

/-- A61. -/
theorem test_a_byte_at_offset_FFFF :
    after (code 0x100 0x100 [0x8A, 0x07] [setr .w16 .ebx 0xFFFF, put 0xFFFF [0x77]]) (fun t => t.reg .b8 .eax) =
      some 0x77 := by decide

/-- B2. -/
theorem test_movs_steps_down :
    after (code 0x300 0x300 [0xA4] [setf fun f => { f with df := true }, setr .w16 .esi 0x100, setr .w16 .edi 0x200,
        put 0x100 [0x99]]) (fun t => (bytesAt t 0x200 1, t.reg .w16 .esi, t.reg .w16 .edi)) =
      some ([0x99], 0xFF, 0x1FF) := by decide

/-- B5. -/
theorem test_scas_equal :
    after (code 0x100 0x100 [0xAE] [setr .b8 .eax 0x41, put 0x10 [0x41], setr .w16 .edi 0x10]) (fun t => (status t,
        t.reg .w16 .edi, t.reg .b8 .eax)) =
      some ([false, false, false, true, false, true], 0x11, 0x41) := by decide

/-- B7. -/
theorem test_scas_overflow :
    after (code 0x100 0x100 [0xAF] [setr .w16 .eax 0x8000, put 0x10 [0x01, 0x00], setr .w16 .edi 0x10]) (fun t =>
        (status t, t.reg .w16 .edi)) =
      some ([false, true, false, false, true, true], 0x12) := by decide

/-- B9. -/
theorem test_stos_wraps_di :
    after (code 0x100 0x100 [0xAA] [setr .b8 .eax 0x41, setr .d32 .edi 0xAAAAFFFF]) (fun t => (bytesAt t 0xFFFF 1,
        t.regs.edi)) =
      some ([0x41], 0xAAAA0000) := by decide

/-- B10b. -/
theorem test_rep_stos_is_one_iteration_a_step :
    after (code 0x100 0x100 [0xF3, 0xAA] [setr .w16 .ecx 0x4, setr .b8 .eax 0x41, setr .w16 .edi 0x200]) (fun t =>
        (bytesAt t 0x200 2, t.reg .w16 .ecx, t.reg .w16 .edi, t.eip)) =
      some ([0x41, 0x00], 0x3, 0x201, 0x100) := by decide

/-- B11. -/
theorem test_rep_with_a_count_of_zero :
    after (code 0x100 0x100 [0xF3, 0xAA] [setr .w16 .ecx 0x0, setr .b8 .eax 0x41, setr .w16 .edi 0x200]) (fun t =>
        (t.eip, bytesAt t 0x200 1)) =
      some (0x102, [0x00]) := by decide

/-- C1. -/
theorem test_mul_8 :
    after (code 0x100 0x100 [0xF6, 0xE3] [setr .b8 .eax 0xFF, setr .b8 .ebx 0xFF]) (fun t => (t.reg .w16 .eax,
        [t.flags.cf, t.flags.ofl])) =
      some (0xFE01, [true, true]) := by decide

/-- C4. -/
theorem test_mul_16_keeps_the_upper_halves :
    after (code 0x100 0x100 [0xF7, 0xE3] [setr .w16 .eax 0x1234, setr .w16 .ebx 0x10, setr .d32 .edx 0xFFFFFFFF])
        (fun t => (t.reg .w16 .eax, t.regs.edx, [t.flags.cf, t.flags.ofl])) =
      some (0x2340, 0xFFFF0001, [true, true]) := by decide

/-- C9. -/
theorem test_neg_of_the_most_negative_byte :
    after (code 0x100 0x100 [0xF6, 0xD8] [setr .b8 .eax 0x80]) (fun t => (t.reg .b8 .eax, [t.flags.cf, t.flags.ofl,
        t.flags.sf, t.flags.zf, t.flags.pf])) =
      some (0x80, [true, true, true, false, false]) := by decide

/-- C12. -/
theorem test_not_changes_no_flag :
    after (code 0x100 0x100 [0xF7, 0xD1] [setr .d32 .ecx 0xABCD00FF, setf fun f => { f with cf := true }, setf fun f
        => { f with zf := true }]) (fun t => (t.regs.ecx, status t)) =
      some (0xABCDFF00, [true, false, false, true, false, false]) := by decide

/-- C14. -/
theorem test_or_with_a_sign_extended_immediate :
    after (code 0x100 0x100 [0x83, 0xC8, 0x80] [setr .w16 .eax 0x1]) (fun t => (t.regs.eax, [t.flags.cf, t.flags.ofl,
        t.flags.sf, t.flags.zf, t.flags.pf])) =
      some (0xFF81, [false, false, true, false, true]) := by decide

/-- C16. -/
theorem test_or_rm_r :
    after (code 0x100 0x100 [0x09, 0xD8] [setr .w16 .eax 0xF0, setr .w16 .ebx 0xF00]) (fun t => (t.reg .w16 .eax,
        [t.flags.cf, t.flags.ofl, t.flags.sf, t.flags.zf, t.flags.pf])) =
      some (0xFF0, [false, false, false, false, true]) := by decide

/-- C21. -/
theorem test_sbb_overflow :
    after (code 0x100 0x100 [0x80, 0xDB, 0x7F] [setr .b8 .ebx 0x80, setf fun f => { f with cf := true }]) (fun t =>
        (t.reg .b8 .ebx, status t)) =
      some (0x0, [false, true, false, true, true, true]) := by decide

/-- C17. -/
theorem test_sbb_accumulator_with_borrow :
    after (code 0x100 0x100 [0x1C, 0x00] [setf fun f => { f with cf := true }]) (fun t => (t.reg .b8 .eax, status t))
        =
      some (0xFF, [true, false, true, false, true, true]) := by decide

/-- C25. -/
theorem test_sub_overflow :
    after (code 0x100 0x100 [0x2C, 0x80] [setr .b8 .eax 0x7F]) (fun t => (t.reg .b8 .eax, status t)) =
      some (0xFF, [true, true, true, false, false, true]) := by decide

/-- C35. -/
theorem test_sub_in_memory :
    after (code 0x100 0x100 [0x80, 0x2F, 0x01] [setr .w16 .ebx 0x200]) (fun t => (bytesAt t 0x200 1, status t)) =
      some ([0xFF], [true, false, true, false, true, true]) := by decide

/-- C29. -/
theorem test_xor_with_itself :
    after (code 0x100 0x100 [0x66, 0x31, 0xC0] [setr .d32 .eax 0x12345]) (fun t => (t.regs.eax, [t.flags.cf,
        t.flags.ofl, t.flags.sf, t.flags.zf, t.flags.pf])) =
      some (0x0, [false, false, false, true, true]) := by decide

/-- C31. -/
theorem test_xor_with_a_sign_extended_immediate :
    after (code 0x100 0x100 [0x83, 0xF3, 0xFF] [setr .w16 .ebx 0xFF]) (fun t => (t.reg .w16 .ebx, [t.flags.cf,
        t.flags.ofl, t.flags.sf, t.flags.zf, t.flags.pf])) =
      some (0xFF00, [false, false, true, false, true]) := by decide

/-- C32. -/
theorem test_test_accumulator :
    after (code 0x100 0x100 [0xA8, 0x80] [setr .b8 .eax 0x81]) (fun t => (t.reg .b8 .eax, [t.flags.cf, t.flags.ofl,
        t.flags.sf, t.flags.zf, t.flags.pf])) =
      some (0x81, [false, false, true, false, false]) := by decide

/-- C34. -/
theorem test_test_rm_imm :
    after (code 0x100 0x100 [0xF6, 0xC3, 0x01] [setr .b8 .ebx 0xFE]) (fun t => (t.reg .b8 .ebx, [t.flags.cf,
        t.flags.ofl, t.flags.sf, t.flags.zf, t.flags.pf])) =
      some (0xFE, [false, false, false, true, true]) := by decide

/-- D3. -/
theorem test_out_dx_ax :
    after (code 0x100 0x100 [0xEF] [setr .w16 .edx 0x3F8, setr .w16 .eax 0x1234]) (fun t => t.ioOut) =
      some [⟨0x3F8, .w16, 0x1234⟩] := by decide

/-- D5. -/
theorem test_out_past_the_last_port_is_refused : stops (code 0x100 0x100 [0xEF] [setr .w16 .edx 0xFFFF]) (.refused
        .portRange) = true := by decide

/-- D6. -/
theorem test_outs :
    after (code 0x100 0x100 [0x6E] [setr .w16 .esi 0x200, put 0x200 [0x7E], setr .w16 .edx 0x80]) (fun t => (t.ioOut,
        t.reg .w16 .esi)) =
      some ([⟨0x80, .b8, 0x7E⟩], 0x201) := by decide

/-- D8. -/
theorem test_out_denied_by_the_map : stops (code 0x100 0x100 [0xE6, 0x20] [inProtected, fun s => { s with cpl := 3 },
        withTss 1]) (.fault (.exception .generalProtection (some 0x0))) = true := by decide

/-- D9. -/
theorem test_out_allowed_by_the_map :
    after (code 0x100 0x100 [0xE6, 0x20] [inProtected, fun s => { s with cpl := 3 }, withTss 0, setr .b8 .eax 0x5])
        (fun t => t.ioOut) =
      some [⟨0x20, .b8, 0x5⟩] := by decide

/-- K1. -/
theorem test_push_ax :
    after (code 0x300 0x300 [0x50] [setr .w16 .esp 0x100, setr .w16 .eax 0x1234]) (fun t => (bytesAt t 0xFE 2, t.reg
        .w16 .esp)) =
      some ([0x34, 0x12], 0xFE) := by decide

/-- K4. -/
theorem test_push_sp_is_the_old_value :
    after (code 0x300 0x300 [0x54] [setr .w16 .esp 0x100]) (fun t => (bytesAt t 0xFE 2, t.reg .w16 .esp)) =
      some ([0x00, 0x01], 0xFE) := by decide

/-- K5. -/
theorem test_push_sign_extended_immediate :
    after (code 0x300 0x300 [0x6A, 0x80] [setr .w16 .esp 0x100]) (fun t => (bytesAt t 0xFE 2, t.reg .w16 .esp)) =
      some ([0x80, 0xFF], 0xFE) := by decide

/-- K8. -/
theorem test_push_memory :
    after (code 0x100 0x100 [0xFF, 0x36, 0x10, 0x00] [put 0x10 [0xAB, 0xCD], setr .w16 .esp 0x200]) (fun t =>
        (bytesAt t 0x1FE 2, t.reg .w16 .esp)) =
      some ([0xAB, 0xCD], 0x1FE) := by decide

/-- K9. -/
theorem test_push_cs :
    after (code 0x200 0x300 [0x0E] [setReal .cs 0x10, setr .w16 .esp 0x100]) (fun t => bytesAt t 0xFE 2) =
      some [0x10, 0x00] := by decide

/-- K25. -/
theorem test_push_at_sp_1_shuts_down : stops (code 0x100 0x100 [0x50] [setr .w16 .esp 0x1]) (.fault .shutdown) = true
        := by decide

/-- K19. -/
theorem test_pusha :
    after (code 0x300 0x300 [0x60] [setr .w16 .esp 0x100, setr .w16 .eax 0x1, setr .w16 .ecx 0x2, setr .w16 .edx 0x3,
        setr .w16 .ebx 0x4, setr .w16 .ebp 0x5, setr .w16 .esi 0x6, setr .w16 .edi 0x7]) (fun t => (bytesAt t 0xF0
        16, t.reg .w16 .esp)) =
      some ([0x07, 0x00, 0x06, 0x00, 0x05, 0x00, 0x00, 0x01, 0x04, 0x00, 0x03, 0x00, 0x02, 0x00, 0x01, 0x00], 0xF0)
        := by decide

/-- K21. -/
theorem test_pusha_at_sp_7 : stops (code 0x100 0x100 [0x60] [setr .w16 .esp 0x7]) (.fault (.exception .stackFault
        none)) = true := by decide

/-- K11. -/
theorem test_pop_keeps_the_upper_half :
    after (code 0x100 0x100 [0x5B] [setr .w16 .esp 0xFFE, put 0xFFE [0xEF, 0xBE], setr .d32 .ebx 0xAAAA0000]) (fun t
        => (t.regs.ebx, t.reg .w16 .esp)) =
      some (0xAAAABEEF, 0x1000) := by decide

/-- K14. -/
theorem test_pop_sp_is_refused : stops (code 0x100 0x100 [0x5C] []) (.refused .espOperand) = true := by decide

/-- K15. -/
theorem test_pop_memory :
    after (code 0x100 0x100 [0x8F, 0x07] [setr .w16 .ebx 0x200, setr .w16 .esp 0x300, put 0x300 [0x34, 0x12]]) (fun t
        => (bytesAt t 0x200 2, t.reg .w16 .esp)) =
      some ([0x34, 0x12], 0x302) := by decide

/-- K17. -/
theorem test_pop_ss_inhibits_interrupts :
    after (code 0x100 0x100 [0x17] [setr .w16 .esp 0x400, put 0x400 [0x00, 0x30]]) (fun t => (t.segs.ss.sel,
        t.segs.ss.base, t.reg .w16 .esp, t.inhibit)) =
      some (0x3000, 0x30000, 0x402, .all) := by decide

/-- K18. -/
theorem test_pop_fs :
    after (code 0x100 0x100 [0x0F, 0xA1] [setr .w16 .esp 0x400, put 0x400 [0x40, 0x00]]) (fun t => (t.segs.fs.sel,
        t.segs.fs.base, t.reg .w16 .esp, t.eip)) =
      some (0x40, 0x400, 0x402, 0x102) := by decide

/-- K28. -/
theorem test_popa_skips_the_pointer :
    after (code 0x100 0x100 [0x61] [setr .w16 .esp 0x4F0, put 0x4F0 [0x07, 0x00, 0x06, 0x00, 0x05, 0x00, 0x00, 0x01,
        0x04, 0x00, 0x03, 0x00, 0x02, 0x00, 0x01, 0x00], setr .d32 .eax 0xAAAA0000, setr .d32 .edi 0xAAAA0000, setr
        .d32 .ebx 0xAAAA1111]) (fun t => (t.regs.eax, t.reg .w16 .ecx, t.reg .w16 .edx, t.regs.ebx, t.reg .w16 .ebp,
        t.reg .w16 .esi, t.regs.edi, t.reg .w16 .esp)) =
      some (0xAAAA0001, 0x2, 0x3, 0xAAAA0004, 0x5, 0x6, 0xAAAA0007, 0x500) := by decide

/-- K31. -/
theorem test_popf :
    after (code 0x100 0x100 [0x9D] [setr .w16 .esp 0x500, put 0x500 [0xD5, 0x0E]]) (fun t => (status t, t.flags.ifl,
        t.flags.df, t.flags.tf, t.flags.iopl, t.reg .w16 .esp)) =
      some ([true, true, true, true, true, true], true, true, false, 0, 0x502) := by decide

/-- K33. -/
theorem test_popf_keeps_if_without_the_privilege :
    after (code 0x100 0x100 [0x9D] [inProtected, fun s => { s with cpl := 3 }, setr .w16 .esp 0x500, put 0x500 [0x01,
        0x02]]) (fun t => (t.flags.cf, t.flags.ifl, t.flags.iopl)) =
      some (true, false, 0) := by decide

/-- K35. -/
theorem test_pushf_in_virtual_8086_mode : stops (code 0x100 0x100 [0x9C] [inV86, setf fun f => { f with iopl := 2 },
        setr .w16 .esp 0x500]) (.fault (.exception .generalProtection (some 0x0))) = true := by decide

/-- H1. -/
theorem test_rol :
    after (code 0x100 0x100 [0xD0, 0xC0] [setr .b8 .eax 0x81]) (fun t => (t.reg .b8 .eax, t.flags.cf, t.flags.ofl)) =
      some (0x3, true, true) := by decide

/-- H8. -/
theorem test_ror_16 :
    after (code 0x100 0x100 [0xC1, 0xC8, 0x04] [setr .w16 .eax 0x8001]) (fun t => (t.reg .w16 .eax, t.flags.cf)) =
      some (0x1800, false) := by decide

/-- H11. -/
theorem test_rcl_by_10 :
    after (code 0x100 0x100 [0xC0, 0xD0, 0x0A] [setr .b8 .eax 0x12, setf fun f => { f with cf := true }]) (fun t =>
        (t.reg .b8 .eax, t.flags.cf)) =
      some (0x25, false) := by decide

/-- H14. -/
theorem test_rcr :
    after (code 0x100 0x100 [0xD0, 0xD8] [setr .b8 .eax 0x1, setf fun f => { f with cf := true }]) (fun t => (t.reg
        .b8 .eax, t.flags.cf, t.flags.ofl)) =
      some (0x80, true, true) := by decide

/-- H17. -/
theorem test_shl :
    after (code 0x100 0x100 [0xD0, 0xE0] [setr .b8 .eax 0x40]) (fun t => (t.reg .b8 .eax, [t.flags.cf, t.flags.ofl,
        t.flags.sf, t.flags.zf, t.flags.pf])) =
      some (0x80, [false, true, true, false, false]) := by decide

/-- H24. -/
theorem test_shr :
    after (code 0x100 0x100 [0xD0, 0xE8] [setr .b8 .eax 0x81]) (fun t => (t.reg .b8 .eax, [t.flags.cf, t.flags.ofl,
        t.flags.sf, t.flags.zf, t.flags.pf])) =
      some (0x40, [true, true, false, false, false]) := by decide

/-- H31. -/
theorem test_sar_by_31 :
    after (code 0x100 0x100 [0xC0, 0xF8, 0x1F] [setr .b8 .eax 0x80]) (fun t => (t.reg .b8 .eax, [t.flags.cf,
        t.flags.sf, t.flags.zf, t.flags.pf])) =
      some (0xFF, [true, true, false, true]) := by decide

/-- H36. -/
theorem test_shld_by_0_changes_nothing :
    after (code 0x100 0x100 [0x0F, 0xA4, 0xD8, 0x00] [setr .w16 .eax 0x1234, setf fun f => { f with cf := true },
        setf fun f => { f with zf := true }]) (fun t => (t.reg .w16 .eax, status t)) =
      some (0x1234, [true, false, false, true, false, false]) := by decide

/-- H34. -/
theorem test_shld :
    after (code 0x100 0x100 [0x0F, 0xA4, 0xD8, 0x04] [setr .w16 .eax 0x1234, setr .w16 .ebx 0xABCD]) (fun t => (t.reg
        .w16 .eax, t.reg .w16 .ebx, [t.flags.cf, t.flags.sf, t.flags.zf, t.flags.pf])) =
      some (0x234A, 0xABCD, [true, false, false, false]) := by decide

/-- H39. -/
theorem test_shrd :
    after (code 0x100 0x100 [0x0F, 0xAC, 0xD8, 0x04] [setr .w16 .eax 0x1234, setr .w16 .ebx 0xABCD]) (fun t => (t.reg
        .w16 .eax, [t.flags.cf, t.flags.sf, t.flags.zf, t.flags.pf])) =
      some (0xD123, [false, true, false, false]) := by decide

/-- H41. -/
theorem test_shrd_cl :
    after (code 0x100 0x100 [0x0F, 0xAD, 0xD8] [setr .b8 .ecx 0xF, setr .w16 .eax 0x8001, setr .w16 .ebx 0x1]) (fun t
        => (t.reg .w16 .eax, [t.flags.cf, t.flags.sf, t.flags.zf, t.flags.pf])) =
      some (0x3, [false, false, false, true]) := by decide

/-- L1. -/
theorem test_ret :
    after (code 0x100 0x100 [0xC3] [setr .w16 .esp 0xFFE, put 0xFFE [0x23, 0x01]]) (fun t => (t.eip, t.reg .w16
        .esp)) =
      some (0x123, 0x1000) := by decide

/-- L2. -/
theorem test_ret_imm16 :
    after (code 0x100 0x100 [0xC2, 0x04, 0x00] [setr .w16 .esp 0xFFE, put 0xFFE [0x23, 0x01]]) (fun t => (t.eip,
        t.reg .w16 .esp)) =
      some (0x123, 0x1004) := by decide

/-- L7. -/
theorem test_ret_beyond_the_limit : stops (code 0x100 0x100 [0x66, 0xC3] [setr .w16 .esp 0x200, put 0x200 [0x00,
        0x02, 0x01, 0x00]]) (.fault (.exception .generalProtection none)) = true := by decide

/-- L4. -/
theorem test_far_ret_imm16_in_real_mode :
    after (code 0x100 0x100 [0xCA, 0x02, 0x00] [setr .w16 .esp 0xFFC, put 0xFFC [0x00, 0x01, 0x00, 0x20]]) (fun t =>
        (t.eip, t.segs.cs.sel, t.reg .w16 .esp)) =
      some (0x100, 0x2000, 0x1002) := by decide

/-- L9. -/
theorem test_far_ret_in_protected_mode :
    after (code 0x100 0x100 [0xCB] [inProtected, withTable gdt, setr .w16 .esp 0xFFC, put 0xFFC [0x00, 0x01, 0x08,
        0x00]]) (fun t => (t.eip, t.segs.cs.sel, t.reg .w16 .esp)) =
      some (0x100, 0x8, 0x1000) := by decide

/-- L13. -/
theorem test_far_ret_to_an_outer_level :
    after (code 0x100 0x100 [0xCB] [inProtected, withTable outerGdt, setr .w16 .esp 0xFF8, put 0xFF8 [0x00, 0x01,
        0x1B, 0x00, 0x00, 0x20, 0x23, 0x00]]) (fun t => (t.cpl, t.segs.cs.sel, t.segs.ss.sel, t.reg .w16 .esp,
        t.segs.ds.valid)) =
      some (3, 0x1B, 0x23, 0x2000, false) := by decide

/-- L16. -/
theorem test_jmp_rel16 :
    after (code 0x200 0x200 [0xE9, 0xFD, 0xFF] []) (fun t => t.eip) =
      some 0x200 := by decide

/-- L17. -/
theorem test_jmp_truncates_to_16_bits :
    after (code 0x80 0x80 [0xE9, 0x00, 0xFF] []) (fun t => t.eip) =
      some 0xFF83 := by decide

/-- L18. -/
theorem test_jz_taken :
    after (code 0x100 0x100 [0x74, 0xFE] [setf fun f => { f with zf := true }]) (fun t => t.eip) =
      some 0x100 := by decide

/-- L19. -/
theorem test_jz_not_taken :
    after (code 0x100 0x100 [0x74, 0xFE] []) (fun t => t.eip) =
      some 0x102 := by decide

/-- L20. -/
theorem test_jnz_near :
    after (code 0x100 0x100 [0x0F, 0x85, 0x10, 0x00] []) (fun t => t.eip) =
      some 0x114 := by decide

/-- L21. -/
theorem test_jl :
    after (code 0x100 0x100 [0x7C, 0x05] [setf fun f => { f with sf := true }]) (fun t => t.eip) =
      some 0x107 := by decide

/-- L24. -/
theorem test_jecxz :
    after (code 0x100 0x100 [0x67, 0xE3, 0x10] [setr .d32 .ecx 0x10000]) (fun t => t.eip) =
      some 0x103 := by decide

/-- L25. -/
theorem test_loop_taken :
    after (code 0x100 0x100 [0xE2, 0xFE] [setr .w16 .ecx 0x2]) (fun t => (t.reg .w16 .ecx, t.eip)) =
      some (0x1, 0x100) := by decide

/-- L28. -/
theorem test_loope :
    after (code 0x100 0x100 [0xE1, 0xFE] [setr .w16 .ecx 0x5]) (fun t => (t.reg .w16 .ecx, t.eip)) =
      some (0x4, 0x102) := by decide

/-- L29. -/
theorem test_loopne :
    after (code 0x100 0x100 [0xE0, 0xFE] [setr .w16 .ecx 0x5]) (fun t => (t.reg .w16 .ecx, t.eip)) =
      some (0x4, 0x100) := by decide

/-- M1. -/
theorem test_nop :
    after (code 0x100 0x100 [0x90] []) (fun t => t.eip) =
      some 0x101 := by decide

/-- M2. -/
theorem test_sahf :
    after (code 0x100 0x100 [0x9E] [setr .b8 .esp 0xD5, setf fun f => { f with ofl := true }, setf fun f => { f with
        df := true }]) (fun t => (status t, t.flags.df)) =
      some ([true, true, true, true, true, true], true) := by decide

/-- M4. -/
theorem test_stc :
    after (code 0x100 0x100 [0xF9] []) (fun t => t.flags.cf) =
      some true := by decide

/-- M4b. -/
theorem test_clc :
    after (code 0x100 0x100 [0xF8] [setf fun f => { f with cf := true }]) (fun t => t.flags.cf) =
      some false := by decide

/-- M4c. -/
theorem test_cmc :
    after (code 0x100 0x100 [0xF5] []) (fun t => t.flags.cf) =
      some true := by decide

/-- M5. -/
theorem test_std :
    after (code 0x100 0x100 [0xFD] []) (fun t => t.flags.df) =
      some true := by decide

/-- M5b. -/
theorem test_cld :
    after (code 0x100 0x100 [0xFC] [setf fun f => { f with df := true }]) (fun t => t.flags.df) =
      some false := by decide

/-- M6. -/
theorem test_sti_inhibits_when_if_was_0 :
    after (code 0x100 0x100 [0xFB] []) (fun t => (t.flags.ifl, t.inhibit)) =
      some (true, .maskable) := by decide

/-- M7. -/
theorem test_sti_when_if_was_1 :
    after (code 0x100 0x100 [0xFB] [setf fun f => { f with ifl := true }]) (fun t => (t.flags.ifl, t.inhibit)) =
      some (true, .none) := by decide

/-- M9b. -/
theorem test_cli :
    after (code 0x100 0x100 [0xFA] [inProtected, setf fun f => { f with ifl := true }]) (fun t => t.flags.ifl) =
      some false := by decide

/-- M9. -/
theorem test_cli_above_iopl : stops (code 0x100 0x100 [0xFA] [inProtected, fun s => { s with cpl := 3 }]) (.fault
        (.exception .generalProtection (some 0x0))) = true := by decide

/-- M11. -/
theorem test_setl :
    after (code 0x100 0x100 [0x0F, 0x9C, 0xC3] [setf fun f => { f with sf := true }]) (fun t => t.reg .b8 .ebx) =
      some 0x1 := by decide

/-- M13. -/
theorem test_setnle_memory :
    after (code 0x100 0x100 [0x0F, 0x9F, 0x07] [setr .w16 .ebx 0x200, setf fun f => { f with sf := true }, setf fun f
        => { f with ofl := true }]) (fun t => bytesAt t 0x200 1) =
      some [0x01] := by decide

/-- M15. -/
theorem test_wait :
    after (code 0x100 0x100 [0x9B] []) (fun t => t.eip) =
      some 0x101 := by decide

/-- M16. -/
theorem test_wait_with_ts : stops (code 0x100 0x100 [0x9B] [fun s => { s with cr0 := 0x8 }]) (.fault (.exception
        .coprocessorNotAvailable none)) = true := by decide

/-- M17. -/
theorem test_wait_holds_while_busy :
    after (code 0x100 0x100 [0x9B] [fun s => { s with cfg := { s.cfg with has387 := true } }, fun s => { s with
        busyPin := true }]) (fun t => t.eip) =
      some 0x100 := by decide

/-- M19. -/
theorem test_xchg_registers :
    after (code 0x100 0x100 [0x87, 0xD8] [setr .w16 .eax 0x1111, setr .w16 .ebx 0x2222]) (fun t => (t.reg .w16 .eax,
        t.reg .w16 .ebx)) =
      some (0x2222, 0x1111) := by decide

/-- M20. -/
theorem test_xchg_memory :
    after (code 0x100 0x100 [0x86, 0x07] [setr .w16 .ebx 0x200, setr .b8 .eax 0x55, put 0x200 [0xAA]]) (fun t =>
        (t.reg .b8 .eax, bytesAt t 0x200 1)) =
      some (0xAA, [0x55]) := by decide

/-- M22. -/
theorem test_xchg_accumulator :
    after (code 0x100 0x100 [0x91] [setr .w16 .eax 0x1, setr .w16 .ecx 0x2]) (fun t => (t.reg .w16 .eax, t.reg .w16
        .ecx)) =
      some (0x2, 0x1) := by decide

/-- M25. -/
theorem test_xlat_wraps :
    after (code 0x100 0x100 [0xD7] [setr .w16 .ebx 0xFFFF, setr .d32 .eax 0x1202, put 0x1 [0x77]]) (fun t =>
        t.regs.eax) =
      some 0x1277 := by decide

/-- Y1. -/
theorem test_sgdt_at_32_bits :
    after (code 0x100 0x100 [0x66, 0x0F, 0x01, 0x06, 0x00, 0x05] [fun s => { s with gdtr := ⟨0x27, 0x12345⟩ }]) (fun
        t => bytesAt t 0x500 6) =
      some [0x27, 0x00, 0x45, 0x23, 0x01, 0x00] := by decide

/-- Y3. -/
theorem test_sidt_at_32_bits :
    after (code 0x100 0x100 [0x66, 0x0F, 0x01, 0x0E, 0x00, 0x05] []) (fun t => bytesAt t 0x500 6) =
      some [0xFF, 0x03, 0x00, 0x00, 0x00, 0x00] := by decide

/-- Y4. -/
theorem test_sgdt_limit_is_checked_for_six_bytes : stops (code 0x100 0x100 [0x0F, 0x01, 0x06, 0xFB, 0xFF] []) (.fault
        (.exception .generalProtection none)) = true := by decide

/-- Y5. -/
theorem test_sgdt_of_a_register : stops (code 0x100 0x100 [0x0F, 0x01, 0xC0] [inProtected]) (.fault (.exception
        .invalidOpcode none)) = true := by decide

/-- Y6. -/
theorem test_sldt :
    after (code 0x100 0x100 [0x0F, 0x00, 0xC0] [inProtected, fun s => { s with ldtr := ⟨0x28, 0, 0⟩ }]) (fun t =>
        t.reg .w16 .eax) =
      some 0x28 := by decide

/-- Y7. -/
theorem test_sldt_in_real_mode : stops (code 0x100 0x100 [0x0F, 0x00, 0xC0] []) (.fault (.exception .invalidOpcode
        none)) = true := by decide

/-- Y8. -/
theorem test_str_to_memory :
    after (code 0x300 0x300 [0x0F, 0x00, 0x0F] [inProtected, fun s => { s with taskr := ⟨0x30, 0, 0⟩ }, setr .w16
        .ebx 0x100]) (fun t => bytesAt t 0x100 2) =
      some [0x30, 0x00] := by decide

/-- Y9. -/
theorem test_smsw :
    after (code 0x100 0x100 [0x0F, 0x01, 0xE0] [fun s => { s with cr0 := 0x10 }, setr .d32 .eax 0xFFFF0000]) (fun t
        => t.regs.eax) =
      some 0xFFFF0010 := by decide

/-- Y12. -/
theorem test_verr_fails :
    after (code 0x100 0x100 [0x0F, 0x00, 0xE0] [inProtected, withTable gdt, fun s => { s with cpl := 3 }, setr .w16
        .eax 0x10, setf fun f => { f with zf := true }, setf fun f => { f with cf := true }]) (fun t => (t.flags.zf,
        t.flags.cf)) =
      some (false, true) := by decide

/-- Y13. -/
theorem test_verr_passes :
    after (code 0x100 0x100 [0x0F, 0x00, 0xE0] [inProtected, withTable gdt, fun s => { s with cpl := 3 }, setr .w16
        .eax 0x20]) (fun t => t.flags.zf) =
      some true := by decide

/-- Y17. -/
theorem test_verw_of_a_read_only_segment :
    after (code 0x100 0x100 [0x0F, 0x00, 0xE9] [inProtected, withTable gdt, setr .w16 .ecx 0x18, setf fun f => { f
        with zf := true }]) (fun t => t.flags.zf) =
      some false := by decide

/-- Y18. -/
theorem test_verw_passes :
    after (code 0x100 0x100 [0x0F, 0x00, 0xE9] [inProtected, withTable gdt, setr .w16 .ecx 0x10]) (fun t =>
        t.flags.zf) =
      some true := by decide

/-- ADD. -/
theorem test_add_has_no_semantics : stops (code 0x100 0x100 [0x00, 0x00] []) (.refused (.noSemantics "ADD")) = true
        := by decide

/-- TF = 1 (rule R28). -/
theorem test_a_step_with_tf_is_refused :
    stops (code 0x100 0x100 [0x90] [setf fun f => { f with tf := true }]) (.refused .trapFlagSet) = true := by decide

/-- A NOP in the last byte of a 4 GB code segment: `EIP_next` does not wrap (rule R25). -/
def lastByte : State :=
  { put 0xFFFFFF [0x90] (inProtected base) with
    eip := 0xFFFFFFFF, segs := { base.segs with cs := { flat with limit := 0xFFFFFFFF } } }
theorem test_a_nop_in_the_last_byte : after lastByte (fun t => (t.eip, t.eipCarry)) = some (0, true) := by decide
theorem test_no_fetch_beyond_the_last_byte :
    stops { lastByte with eip := 0, eipCarry := true } (.fault (.exception .generalProtection (some 0))) = true := by
  decide
/-- Rule R460: BASE at off + 2 modulo 2^16. -/
theorem test_sgdt_base_wraps_at_16_bits :
    after (code 0x100 0x100 [0x66, 0x0F, 0x01, 0x07] [inProtected, setr .w16 .ebx 0xFFFE, fun s =>
        { s with gdtr := ⟨0x1234, 0x12345678⟩,
                 segs := { s.segs with ds := { flat with base := 0x20000, limit := 0x1FFFF } } }])
      (fun t => (bytesAt t 0x2FFFE 4, bytesAt t 0x20000 4)) =
      some ([0x34, 0x12, 0, 0], [0x78, 0x56, 0x34, 0x12]) := by decide
/-- Rules R79, R402: the limit of both items before the first is read, which the host does not back. -/
theorem test_far_ret_checks_both_limits_first :
    stops (code 0x100 0x100 [0xCB] [setr .w16 .esp 0xFFFD, fun s =>
        { s with cfg := { memoryMap := .regions [⟨0, 0x200, .ram⟩] } }]) (.fault (.exception .stackFault none)) = true ∧
      stops (code 0x100 0x100 [0xCB] [setr .w16 .esp 0xFFFB, fun s =>
        { s with cfg := { memoryMap := .regions [⟨0, 0x200, .ram⟩] } }]) (.refused .unbackedAddress) = true := by decide
/-- RAM, then ROM from 200H to 2FFH, then the window of a device from 300H to 3FFH, and nothing above; 44H at 200H. -/
def mapped (s : State) : State :=
  let map := .regions [⟨0, 0x200, .ram⟩, ⟨0x200, 0x100, .rom⟩, ⟨0x300, 0x100, .device⟩]
  put 0x200 [0x44] { s with cfg := { s.cfg with memoryMap := map } }
/-- Rule R79: ROM is read; a store to it completes and leaves it as it was, beside a store to RAM that does not. -/
theorem test_rom_is_read_and_not_written :
    after (code 0x100 0x100 [0x8A, 0x07] [mapped, setr .w16 .ebx 0x200]) (fun t => t.reg .b8 .eax) = some 0x44 ∧
      after (code 0x100 0x100 [0xC7, 0x07, 0x11, 0x22] [mapped, setr .w16 .ebx 0x1FF])
        (fun t => (t.eip, bytesAt t 0x1FF 2)) = some (0x104, [0x11, 0x44]) := by decide
/-- Rule R79: a device window, then an address that nothing backs, read and written; a fetch from the window. -/
theorem test_device_windows_are_refused :
    stops (code 0x100 0x100 [0x8A, 0x07] [mapped, setr .w16 .ebx 0x300]) (.refused .deviceWindow) = true ∧
      stops (code 0x100 0x100 [0x89, 0x07] [mapped, setr .w16 .ebx 0x3FF]) (.refused .deviceWindow) = true ∧
      stops (code 0x100 0x100 [0x89, 0x07] [mapped, setr .w16 .ebx 0x400]) (.refused .unbackedAddress) = true ∧
      stops (code 0x300 0x300 [0x90] [mapped]) (.refused .deviceWindow) = true := by decide
/-- Rules R38, R630, R661: protected mode is entered at CPL 0 whatever the field held; there MOV CR0 leaves it. -/
theorem test_mov_cr0_enters_at_level_0 :
    after (code 0x100 0x100 [0x0F, 0x22, 0xC0] [setr .d32 .eax 0x11, fun s => { s with cpl := 2 }])
        (fun t => (t.mode, t.cpl)) = some (.prot, 0) ∧
      after (code 0x100 0x100 [0x0F, 0x22, 0xC0] [setr .d32 .eax 0x10, fun s => { s with cpl := 2 }])
        (fun t => (t.mode, t.cpl)) = some (.real, 2) := by decide
/-- Rules R41, R620. -/
theorem test_a_pending_interrupt_is_refused :
    stops (code 0x100 0x100 [0x90] [fun s => { s with nmiPending := true }]) (.refused .interruptDelivery) = true ∧
      stops (code 0x100 0x100 [0x90] [setf fun f => { f with ifl := true }, fun s => { s with intrPending := true }])
        (.refused .interruptDelivery) = true := by decide
theorem test_an_interrupt_waits_for_if_and_the_shadow :
    isNext (step (code 0x100 0x100 [0x90] [fun s => { s with intrPending := true }])) = true ∧
      isNext (step (code 0x100 0x100 [0x90]
        [fun s => { s with nmiPending := true, inhibit := .all }])) = true := by decide

/-! ### Witnesses: for each statement with hypotheses, states and operands that meet them together, for each clause at an
edge of its range -/

/-- A real-address mode state in a one-byte instruction; a word at [BX] and the top two words of the stack end at the
limit. -/
def rs : State :=
  { base with regs := { base.regs with ebx := 0xFFFE, esp := 0xFFFC, esi := 0x10, edi := 0x20, edx := 0x80 },
              ctx := { len := 1 } }

/-- The same in protected mode at level 0, with the table of the vectors. -/
def ps : State := withTable gdt (inProtected rs)

/-- The same at level 3. -/
def us : State := { ps with cpl := 3 }

/-- The same in virtual 8086 mode with IOPL 3. -/
def vs : State := setf (fun f => { f with iopl := 3 }) (inV86 rs)

/-- The operand [BX]. -/
def bx : RM := .mem (.base16 .bx .none)

/-- Real-address mode with no room for a word at [BX], at DS:ESI and at ES:EDI. -/
def edge : State := { rs with regs := { rs.regs with ebx := 0xFFFF, esi := 0xFFFF, edi := 0xFFFF } }

/-- Protected mode with null selectors in DS and ES. -/
def nulls : State :=
  (ps.setSeg .ds { flat with valid := false }).setSeg .es { flat with valid := false }

/-- Protected mode with a stack segment that is not writable. -/
def readOnlyStack : State := ps.setSeg .ss { flat with rights := { realRights with kind := .data false false } }

/-- The check of a memory operand fails. -/
def failing (s : State) (k : Access) (w : Width) : Place → Bool
  | .reg _ => false
  | .mem g off =>
    match s.checkAccess k g off w.bytes with
    | .error _ => true
    | .ok _ => false

/-- The check of a stack item fails. -/
def failingItem (x : M Unit) : Bool :=
  match x with
  | .error _ => true
  | .ok _ => false

/-- The host backs the first 512 bytes only. -/
def lowOnly (s : State) : State := { s with cfg := { s.cfg with memoryMap := .regions [⟨0, 0x200, .ram⟩] } }

theorem rs_write8 : rs.MayWrite .b8 (rs.place bx) := State.checkWrite_eq_ok.mp rfl
theorem rs_write16 : rs.MayWrite rs.opWidth (rs.place bx) := State.checkWrite_eq_ok.mp rfl
theorem rs_read8 : rs.MayRead .b8 (rs.place bx) := State.checkRead_eq_ok.mp rfl
theorem rs_read16 : rs.MayRead rs.opWidth (rs.place bx) := State.checkRead_eq_ok.mp rfl
theorem rs_unlocked : rs.Unlocked := rfl
theorem rs_pop0 : rs.MayPop 0 rs.opWidth.bytes := State.checkPop_eq_ok.mp rfl
theorem rs_pop1 : rs.MayPop rs.opWidth.bytes rs.opWidth.bytes := State.checkPop_eq_ok.mp rfl
theorem rs_push : rs.MayPush rs.opWidth.bytes rs.opWidth.bytes := State.checkPush_eq_ok.mp rfl

theorem witness_SubtractionIsExact :
    (0 : Word).toNat < 2 ^ Width.b8.bits ∧ (0xFF : Word).toNat < 2 ^ Width.b8.bits ∧
      (0xFFFFFFFF : Word).toNat < 2 ^ Width.d32.bits := by decide
theorem witness_ShiftAndRotateClosedForms : (0xFF : Word).toNat < 2 ^ Width.b8.bits ∧ 0 < 1 := by decide
theorem witness_DoubleShiftValues :
    Width.w16 ≠ .b8 ∧ (0xFFFF : Word).toNat < 2 ^ Width.w16.bits ∧ 1 ≤ 1 ∧ 1 < Width.w16.bits ∧ 15 < Width.w16.bits := by
  decide
theorem witness_ShiftFlagRules :
    Shift.rol.isRotate = true ∧ Shift.shl.isRotate = false ∧ Shift.rol ∈ [Shift.rol, .rcl, .shl] ∧
      Shift.ror ∈ [Shift.ror, .rcr] := by decide
theorem witness_MemoryIsLittleEndian :
    rs.mem.wf ∧ 2 ≤ rs.cfg.physAddrBits ∧ 1 ∈ [1, 2, 4] ∧ 4 ∈ [1, 2, 4] ∧
      (∀ a ∈ rs.addrs .ds 0xFFFC 4, rs.backing a ≠ some .rom) ∧ (mapped rs).mem.wf ∧
      (mapped rs).backing ((mapped rs).byteAddr .ds 0x1FE 2) = some .rom := by decide

/-- Protected mode with an expand-down DS. -/
def down : State :=
  ps.setSeg .ds { flat with limit := 0xFFF, rights := { realRights with kind := .data true true } }

theorem witness_SegmentLimits :
    rs.mode ≠ .prot ∧ (down.mode = .prot ∧ (down.seg .ds).rights.kind = .data true true) ∧ ps.mode = .prot ∧
      ∀ w, (ps.seg .cs).rights.kind ≠ .data w true := by decide
theorem witness_AccessChecks :
    (let s := ps.setSeg .ds { flat with valid := false }; s.mode = .prot ∧ (s.seg .ds).valid = false) ∧
      (let s := ps.setSeg .ss { flat with rights := { realRights with kind := .data false false } }
      s.mode = .prot ∧ (s.seg .ss).rights.allows .write = false) ∧
      (rs.mode ≠ .prot ∧ rs.inLimit .ds 0xFFFF 2 = false ∧ rs.inLimit .ds 0xFFFE 2 = true) ∧
      (let s := mapped rs
      s.accessFault .read .ds 0x2FF 2 = none ∧ s.backing (s.byteAddr .ds 0x2FF 0) = some .rom ∧
        s.backing (s.byteAddr .ds 0x2FF 1) = some .device ∧ s.accessFault .write .ds 0x400 1 = none ∧
        s.backing (s.byteAddr .ds 0x400 0) = none) := by decide
theorem witness_StackPrimitives :
    rs.MayPush 2 2 ∧ (rs.setReg .w16 .esp 1).inLimit .ss ((rs.setReg .w16 .esp 1).stackDown 2) 2 = false ∧
      ((ps.setSeg .ss { flat with rights := { realRights with kind := .data false false } }).seg
        .ss).rights.writable = false :=
  ⟨rs_push, by decide, by decide⟩
theorem witness_DescriptorLookUp :
    ps.cfg.descriptorReader = .standard ∧
      ({ ps with cfg := { descriptorReader := .host } } : State).cfg.descriptorReader = .host ∧
      ((0xC : Half).getLsbD 2 = true ∧ ps.ldtr.sel.toNat < 4) ∧
      ((0x38 : Half).getLsbD 2 = false ∧ ps.gdtr.limit.toNat < (0x38 : Half).toNat / 8 * 8 + 7) ∧
      ((0x30 : Half).getLsbD 2 = false ∧ (0x30 : Half).toNat / 8 * 8 + 7 = ps.gdtr.limit.toNat) ∧
      ps.Backed ((List.range 8).map fun i => ps.phys (ps.gdtr.base + BitVec.ofNat 32 (0x30 + i))) :=
  ⟨rfl, rfl, by decide, by decide, by decide, fun _ _ => .inl rfl⟩
theorem witness_SegmentLoadRules :
    rs.mode ≠ .prot ∧ ps.mode = .prot ∧ (3 : Half).toNat < 4 ∧ 4 ≤ (4 : Half).toNat ∧
      ps.readDescriptor 4 = .ok none ∧ ∃ d, ps.readDescriptor 0x10 = .ok (some d) :=
  ⟨by decide, by decide, by decide, by decide, rfl, _, rfl⟩

theorem witness_MovGeneralCompletes :
    rs.Unlocked ∧ rs.MayWrite .b8 (rs.place bx) ∧ rs.MayWrite rs.opWidth (rs.place bx) ∧ rs.MayRead .b8 (rs.place bx) ∧
      rs.MayRead rs.opWidth (rs.place bx) ∧ rs.MayRead .b8 (.mem (rs.segOr .ds) 0xFFFF) ∧
      rs.MayRead rs.opWidth (.mem (rs.segOr .ds) 0xFFFE) ∧ rs.MayWrite .b8 (.mem (rs.segOr .ds) 0xFFFF) ∧
      rs.MayWrite rs.opWidth (.mem (rs.segOr .ds) 0xFFFE) :=
  ⟨rfl, rs_write8, rs_write16, rs_read8, rs_read16, State.checkRead_eq_ok.mp rfl, State.checkRead_eq_ok.mp rfl,
    State.checkWrite_eq_ok.mp rfl, State.checkWrite_eq_ok.mp rfl⟩
theorem witness_MovGeneralCompletes_stops :
    edge.ctx.lock = false ∧
      nulls.ctx.lock = false ∧
      failing edge .write edge.opWidth (edge.place bx) = true ∧
      failing nulls .write .b8 (nulls.place bx) = true ∧
      failing edge .read edge.opWidth (edge.place bx) = true ∧
      failing nulls .read .b8 (nulls.place bx) = true ∧
      failing edge .read edge.opWidth (.mem (edge.segOr .ds) 0xFFFF) = true ∧
      failing edge .write edge.opWidth (.mem (edge.segOr .ds) 0xFFFF) = true ∧
      failing nulls .read .b8 (.mem (nulls.segOr .ds) 0) = true ∧
      failing nulls .write .b8 (.mem (nulls.segOr .ds) 0) = true := by decide
theorem witness_MovRegisterImmediate : rs.Unlocked := rfl
theorem witness_MovExtendCompletes :
    rs.Unlocked ∧ rs.MayRead .b8 (rs.place bx) ∧ rs.MayRead .w16 (rs.place bx) := ⟨rfl, rs_read8, rs_read16⟩
theorem witness_MovExtendCompletes_stops :
    edge.ctx.lock = false ∧
      nulls.ctx.lock = false ∧
      failing nulls .read .b8 (nulls.place bx) = true ∧
      failing edge .read .w16 (edge.place bx) = true := by decide
theorem witness_StoreHalfCompletes :
    rs.Unlocked ∧ rs.MayWrite .w16 (rs.place bx) ∧ rs.opSize = .s16 ∧
      ({ rs with ctx := { opsz := true } } : State).opSize = .s32 := ⟨rfl, rs_write16, by decide, by decide⟩
theorem witness_StoreHalfCompletes_stops :
    edge.ctx.lock = false ∧
      nulls.ctx.lock = false ∧
      failing edge .write .w16 (edge.place bx) = true := by decide
theorem witness_SegmentLoadsComplete :
    rs.Unlocked ∧ SegReg.ss ≠ .cs ∧ rs.MayRead .w16 (rs.place bx) ∧
      (∃ t, rs.loadSeg .ss ((rs.readAt .w16 (rs.place bx)).extractLsb' 0 16) = .ok t) ∧
      (∃ e, ps.loadSeg .ss ((ps.readAt .w16 (ps.place bx)).extractLsb' 0 16) = .error e) ∧
      rs.MayPop 0 rs.opWidth.bytes ∧ (∃ t, rs.loadSeg .ds ((rs.item 0 rs.opWidth.bytes).extractLsb' 0 16) = .ok t) ∧
      ∃ e, ps.loadSeg .ss ((ps.item 0 ps.opWidth.bytes).extractLsb' 0 16) = .error e :=
  ⟨rfl, by decide, rs_read16, ⟨_, rfl⟩, ⟨_, rfl⟩, rs_pop0, ⟨_, rfl⟩, ⟨_, rfl⟩⟩
theorem witness_SegmentLoadsComplete_stops :
    edge.ctx.lock = false ∧
      nulls.ctx.lock = false ∧
      failing edge .read .w16 (edge.place bx) = true ∧
      failingItem ((rs.setReg .w16 .esp 0xFFFF).checkPop 0 2) = true ∧
      (rs.setReg .w16 .esp 0xFFFF).inLimit .ss ((rs.setReg .w16 .esp 0xFFFF).stackUp 0) 2 = false := by decide
theorem witness_SpecialMoves :
    rs.Unlocked ∧ rs.Privileged ∧ ps.Privileged ∧ vs.mode = .v86 ∧ (us.mode = .prot ∧ us.cpl ≠ 0) ∧
      (let s := rs.setReg .d32 .ecx 0x80000000; s.Privileged ∧ (s.regs.get .ecx).getLsbD 31 = true) ∧
      (ps.pe = true ∧ (ps.regs.get .ebx).getLsbD 31 = false ∧ (ps.regs.get .ebx).getLsbD 0 = false) ∧
      (rs.regs.get .ebx).toNat % 2 ^ 12 ≠ 0 ∧ (rs.regs.get .ebx).toNat % 2 ^ 8 ≠ 0 ∧
      ((rs.regs.get .eax).getLsbD 31 = false ∧ rs.pe = false) ∧ (rs.regs.get .eax).toNat % 2 ^ 12 = 0 ∧
      (rs.regs.get .eax).toNat % 2 ^ 8 = 0 := by
  refine ⟨rfl, .inl rfl, .inr ⟨rfl, rfl⟩, rfl, ⟨rfl, by decide⟩, ⟨.inl rfl, by decide⟩, by decide, by decide, by decide,
    by decide, by decide, by decide⟩
theorem witness_StringOnceCompletes :
    rs.Unlocked ∧ rs.ctx.rep = none ∧ rs.MayRead .b8 rs.stringSrc ∧ rs.MayRead rs.opWidth rs.stringSrc ∧
      rs.MayWrite .b8 rs.stringDst ∧ rs.MayWrite rs.opWidth rs.stringDst ∧ rs.MayRead .b8 rs.stringDst ∧
      rs.MayRead rs.opWidth rs.stringDst ∧ rs.MayOutput rs.dx.toNat 2 ∧ rs.dx.toNat + 2 ≤ 0x10000 :=
  ⟨rfl, rfl, State.checkRead_eq_ok.mp rfl, State.checkRead_eq_ok.mp rfl, State.checkWrite_eq_ok.mp rfl,
    State.checkWrite_eq_ok.mp rfl, State.checkRead_eq_ok.mp rfl, State.checkRead_eq_ok.mp rfl, .inl (.inl rfl), by decide⟩
theorem witness_StringOnceCompletes_stops :
    edge.ctx.lock = false ∧
      nulls.ctx.lock = false ∧
      edge.ctx.rep = none ∧
      nulls.ctx.rep = none ∧
      (edge.placeFault .read edge.opWidth edge.stringSrc).isSome = true ∧
      failing edge .read edge.opWidth edge.stringSrc = true ∧
      failing nulls .read .b8 nulls.stringSrc = true ∧
      failing edge .read edge.opWidth edge.stringDst = true ∧
      failing edge .write edge.opWidth edge.stringDst = true ∧
      failing nulls .read .b8 nulls.stringDst = true ∧
      failing nulls .write .b8 nulls.stringDst = true ∧
      edge.checkIo edge.dx.toNat 2 = .ok () ∧
      nulls.checkIo nulls.dx.toNat 1 = .ok () ∧
      (let s := (lowOnly rs).setReg .w16 .edi 0xFFFF |>.setReg .w16 .esi 0x300
      s.placeFault .read .w16 s.stringSrc = none ∧ (s.placeFault .write .w16 s.stringDst).isSome = true) ∧
      (let s := nulls.setSeg .ds flat
      s.placeFault .read .b8 s.stringSrc = none ∧ (s.placeFault .write .b8 s.stringDst).isSome = true) ∧
      (let s := (lowOnly rs).setReg .w16 .edi 0x1FF
      s.placeFault .read .w16 s.stringSrc = none ∧ s.placeFault .write .w16 s.stringDst = none ∧
        s.backRefusal (s.placeAddrs .w16 s.stringSrc ++ s.placeAddrs .w16 s.stringDst) = some .unbackedAddress) := by
  decide

/-- A repeated instruction with the count 1, the last iteration. -/
def last : State := { rs.setReg .w16 .ecx 1 with ctx := { rep := some .repne, len := 2 } }

theorem witness_RepeatedStep :
    last.Unlocked ∧ last.ctx.rep = some .repne ∧ last.count ≠ 0 ∧ ({ last with regs := rs.regs } : State).count = 0 ∧
      (∃ u, movsOnce .b8 last = .ok u) ∧ (∃ u, scasOnce last.opWidth last = .ok u) ∧
      ∃ e, movsOnce .w16 (last.setReg .w16 .esi 0xFFFF) = .error e :=
  ⟨rfl, rfl, by decide, by decide, ⟨_, rfl⟩, ⟨_, rfl⟩, ⟨_, rfl⟩⟩
theorem witness_TwoOperandFormsComplete :
    rs.Unlocked ∧ ({ rs with ctx := { lock := true } } : State).LockFits bx ∧ rs.LockFits (.reg .eax) ∧
      rs.MayWrite .b8 (rs.place bx) ∧ rs.MayWrite rs.opWidth (rs.place bx) ∧ rs.MayRead .b8 (rs.place bx) ∧
      rs.MayRead rs.opWidth (rs.place bx) :=
  ⟨rfl, fun _ => ⟨_, rfl⟩, fun h => absurd h (by decide), rs_write8, rs_write16, rs_read8, rs_read16⟩
theorem witness_TwoOperandFormsComplete_stops :
    edge.ctx.lock = false ∧
      nulls.ctx.lock = false ∧
      failing edge .write edge.opWidth (edge.place bx) = true ∧
      failing nulls .write .b8 (nulls.place bx) = true ∧
      failing edge .read edge.opWidth (edge.place bx) = true ∧
      failing nulls .read .b8 (nulls.place bx) = true := by decide
theorem witness_NotAndNegComplete :
    rs.LockFits bx ∧ rs.MayWrite .b8 (rs.place bx) ∧ rs.MayWrite rs.opWidth (rs.place bx) :=
  ⟨fun _ => ⟨_, rfl⟩, rs_write8, rs_write16⟩
theorem witness_NotAndNegComplete_stops :
    edge.ctx.lock = false ∧
      nulls.ctx.lock = false ∧
      failing edge .write edge.opWidth (edge.place bx) = true ∧
      failing nulls .write .b8 (nulls.place bx) = true := by decide
theorem witness_MulAndTestComplete :
    rs.Unlocked ∧ rs.MayRead .b8 (rs.place bx) ∧ rs.MayRead rs.opWidth (rs.place bx) ∧ rs.MayRead .b8 (.reg .eax) :=
  ⟨rfl, rs_read8, rs_read16, trivial⟩
theorem witness_MulAndTestComplete_stops :
    edge.ctx.lock = false ∧
      nulls.ctx.lock = false ∧
      failing edge .read edge.opWidth (edge.place bx) = true ∧
      failing nulls .read .b8 (nulls.place bx) = true := by decide
theorem witness_OutCompletes :
    rs.Unlocked ∧ rs.MayOutput 0xFFFE 2 ∧ 0xFFFE + 2 ≤ 0x10000 ∧ (withTss 0 us).MayOutput 0x20 1 ∧
      rs.MayOutput rs.dx.toNat 2 ∧ rs.dx.toNat + 2 ≤ 0x10000 ∧ rs.MayOutput 0xFF 2 :=
  ⟨rfl, .inl (.inl rfl), by decide, .inr rfl, .inl (.inl rfl), by decide, .inl (.inl rfl)⟩
theorem witness_IoPrivilege :
    rs.mode = .real ∧ (ps.mode = .prot ∧ ps.cpl.toNat = ps.flags.iopl.toNat) ∧ vs.mode = .v86 ∧
      (us.mode = .prot ∧ us.flags.iopl.toNat < us.cpl.toNat) ∧ (withTss 0 us).ioPermission 0x20 1 = .ok true ∧
      (withTss 1 us).ioPermission 0x20 1 = .ok false ∧
      (let s := withTss 0xFF (us.setReg .w16 .edx 0x20); s.Unlocked ∧ s.ctx.rep = none ∧
        s.checkIo s.dx.toNat 1 = .error (.fault (.exception .generalProtection (some 0))) ∧
        s.checkIo 0x20 2 = .error (.fault (.exception .generalProtection (some 0)))) :=
  ⟨by decide, by decide, by decide, by decide, rfl, rfl, rfl, rfl, rfl, rfl⟩
theorem witness_IoPermissionMap :
    us.cfg.ioPermission = .tssMap ∧
      ({ us with cfg := { ioPermission := .host } } : State).cfg.ioPermission = .host ∧
      us.cfg.memoryMap = .allRam ∧ ({ us with taskr := ⟨0x30, 0x6000, 0x66⟩ } : State).taskr.limit.toNat < 0x67 ∧
      0x67 ≤ ({ us with taskr := ⟨0x30, 0x6000, 0x67⟩ } : State).taskr.limit.toNat := by decide

theorem witness_PushCompletes :
    rs.Unlocked ∧ espBased (.mem (.sib .x1 none .esp .none)) = true ∧ rs.MayPush rs.opWidth.bytes rs.opWidth.bytes ∧
      espBased bx = false ∧ rs.MayRead rs.opWidth (rs.place bx) ∧ rs.opSize = .s16 ∧
      (let s : State := { rs with ctx := { opsz := true } }; s.opSize = .s32 ∧ s.MayPush s.opWidth.bytes s.opWidth.bytes) :=
  ⟨rfl, rfl, rs_push, rfl, rs_read16, rfl, rfl, State.checkPush_eq_ok.mp rfl⟩
theorem witness_PushCompletes_stops :
    edge.ctx.lock = false ∧
      nulls.ctx.lock = false ∧
      failingItem ((rs.setReg .w16 .esp 1).checkPush 2 2) = true ∧
      (rs.setReg .w16 .esp 1).inLimit .ss ((rs.setReg .w16 .esp 1).stackDown 2) 2 = false ∧
      (readOnlyStack.seg .ss).rights.writable = false ∧
      espBased bx = false ∧
      failing edge .read edge.opWidth (edge.place bx) = true ∧
      (let s := rs.setReg .w16 .esp 1
      s.checkRead s.opWidth (s.place bx) = .ok () ∧ failingItem (s.checkPush 2 2) = true) := by decide
theorem witness_PushOldStackPointer :
    rs.Unlocked ∧ rs.MayPush rs.opWidth.bytes rs.opWidth.bytes ∧ rs.opSize = .s16 ∧
      (let s : State := { rs with ctx := { opsz := true } }; s.opSize = .s32 ∧ s.MayPush s.opWidth.bytes s.opWidth.bytes) :=
  ⟨rfl, rs_push, rfl, rfl, State.checkPush_eq_ok.mp rfl⟩
theorem witness_PushAllAndFlagsComplete :
    vs.Unlocked ∧ (∀ k, 1 ≤ k → k ≤ 8 → vs.MayPush (k * vs.opWidth.bytes) vs.opWidth.bytes) ∧ vs.cfg.rfBit = 16 ∧
      vs.cfg.vmBit = 17 ∧ vs.mode = .v86 ∧ vs.flags.iopl = 3 ∧ vs.MayPush vs.opWidth.bytes vs.opWidth.bytes := by
  refine ⟨rfl, fun k h1 h8 => ?_, rfl, rfl, rfl, rfl, State.checkPush_eq_ok.mp rfl⟩
  interval_cases k <;> exact State.checkPush_eq_ok.mp rfl
theorem witness_PushAllAndFlagsComplete_stops :
    (let s := rs.setReg .w16 .esp 7
    s.ctx.lock = false ∧ s.inLimit .ss (s.stackDown ((3 + 1) * s.opWidth.bytes)) s.opWidth.bytes = false) ∧
      (let s := rs.setReg .w16 .esp 15
      s.inLimit .ss (s.stackDown ((7 + 1) * s.opWidth.bytes)) s.opWidth.bytes = false) ∧
      (readOnlyStack.ctx.lock = false ∧ (readOnlyStack.seg .ss).rights.writable = false) ∧
      (let s := (lowOnly rs).setReg .w16 .esp 0x20F
      (s.seg .ss).rights.writable = true ∧
        (∀ j, j < 8 → s.inLimit .ss (s.stackDown ((j + 1) * s.opWidth.bytes)) s.opWidth.bytes = true) ∧
        s.backRefusal ((List.range 8).flatMap fun j =>
          s.addrs .ss (s.stackDown ((j + 1) * s.opWidth.bytes)) s.opWidth.bytes) = some .unbackedAddress) ∧
      (let s := vs.setReg .w16 .esp 1
      s.ctx.lock = false ∧ s.mode = .v86 ∧ s.flags.iopl = 3 ∧
        failingItem (s.checkPush s.opWidth.bytes s.opWidth.bytes) = true) := by decide
theorem witness_PopCompletes :
    rs.Unlocked ∧ espBased (.mem (.sib .x1 none .esp .none)) = true ∧ rs.MayPop 0 rs.opWidth.bytes ∧ Reg.eax ≠ .esp ∧
      espBased bx = false ∧ rs.MayWrite rs.opWidth (rs.place bx) :=
  ⟨rfl, rfl, rs_pop0, by decide, rfl, rs_write16⟩
theorem witness_PopCompletes_stops :
    edge.ctx.lock = false ∧
      Reg.eax ≠ .esp ∧
      failingItem ((rs.setReg .w16 .esp 0xFFFF).checkPop 0 2) = true ∧
      espBased bx = false ∧
      (let s := rs.setReg .w16 .esp 0xFFFF; s.inLimit .ss (s.stackUp 0) s.opWidth.bytes = false) ∧
      (let s := ps.setSeg .ss { flat with rights := { realRights with kind := .system } }
      s.ctx.lock = false ∧ s.inLimit .ss (s.stackUp 0) s.opWidth.bytes = true ∧
        (s.placeFault .read s.opWidth (.mem .ss (s.stackUp 0))).isSome = true) ∧
      (edge.inLimit .ss (edge.stackUp 0) edge.opWidth.bytes = true ∧
        edge.placeFault .read edge.opWidth (.mem .ss (edge.stackUp 0)) = none ∧
        (edge.placeFault .write edge.opWidth (edge.place bx)).isSome = true) ∧
      (let s := lowOnly rs
      s.placeFault .read s.opWidth (.mem .ss (s.stackUp 0)) = none ∧ s.placeFault .write s.opWidth (s.place bx) = none ∧
        s.backRefusal (s.placeAddrs s.opWidth (.mem .ss (s.stackUp 0)) ++ s.placeAddrs s.opWidth (s.place bx)) =
          some .unbackedAddress) := by decide
theorem witness_PopAllAndFlagsComplete :
    (let s := vs.setReg .w16 .esp 0xFFF0
    s.Unlocked ∧ (∀ k, k < 8 → s.MayPop (k * s.opWidth.bytes) s.opWidth.bytes) ∧ s.mode = .v86 ∧ s.flags.iopl = 3 ∧
      s.MayPop 0 s.opWidth.bytes) := by
  refine ⟨rfl, fun k h8 => ?_, rfl, rfl, State.checkPop_eq_ok.mp rfl⟩
  interval_cases k <;> exact State.checkPop_eq_ok.mp rfl
theorem witness_PopAllAndFlagsComplete_stops :
    (let s := rs.setReg .w16 .esp 0xFFF1
    s.ctx.lock = false ∧ s.inLimit .ss (s.stackUp (7 * s.opWidth.bytes)) s.opWidth.bytes = false) ∧
      (let s := (ps.setReg .w16 .esp 0xFFF0).setSeg .ss { flat with rights := { realRights with kind := .system } }
      s.ctx.lock = false ∧ (∀ j, j < 8 → s.inLimit .ss (s.stackUp (j * s.opWidth.bytes)) s.opWidth.bytes = true) ∧
        s.mode = .prot ∧ (s.seg .ss).rights.readable = false) ∧
      (let s := (lowOnly rs).setReg .w16 .esp 0x1F1
      (∀ j, j < 8 → s.inLimit .ss (s.stackUp (j * s.opWidth.bytes)) s.opWidth.bytes = true) ∧
        s.backRefusal ((List.range 8).flatMap fun j => s.addrs .ss (s.stackUp (j * s.opWidth.bytes)) s.opWidth.bytes) =
          some .unbackedAddress) ∧
      (let s := vs.setReg .w16 .esp 0xFFFF
      s.ctx.lock = false ∧ s.mode = .v86 ∧ s.flags.iopl = 3 ∧ failingItem (s.checkPop 0 s.opWidth.bytes) = true) := by
  decide

theorem witness_ShiftFormsComplete :
    rs.Unlocked ∧ rs.MayWrite .b8 (rs.place bx) ∧ rs.MayWrite rs.opWidth (rs.place bx) := ⟨rfl, rs_write8, rs_write16⟩
theorem witness_ShiftFormsComplete_stops :
    edge.ctx.lock = false ∧
      nulls.ctx.lock = false ∧
      failing edge .write edge.opWidth (edge.place bx) = true ∧
      failing nulls .write .b8 (nulls.place bx) = true := by decide
theorem witness_DoubleShiftsComplete :
    rs.Unlocked ∧ rs.MayWrite rs.opWidth (rs.place bx) ∧ (32 : BitVec 8).toNat % 32 = 0 ∧
      1 ≤ (1 : BitVec 8).toNat % 32 ∧ (15 : BitVec 8).toNat % 32 < rs.opWidth.bits ∧
      rs.opWidth.bits ≤ (16 : BitVec 8).toNat % 32 := ⟨rfl, rs_write16, by decide, by decide, by decide, by decide⟩
theorem witness_DoubleShiftsComplete_stops :
    edge.ctx.lock = false ∧
      failing edge .write edge.opWidth (edge.place bx) = true := by decide
theorem witness_NearAndRealFarReturnsComplete :
    rs.Unlocked ∧ rs.MayPop 0 rs.opWidth.bytes ∧ rs.mode ≠ .prot ∧ rs.MayPop rs.opWidth.bytes rs.opWidth.bytes ∧
      (rs.item 0 rs.opWidth.bytes).toNat ≤ 0xFFFF ∧
      (let s := put 0xFFFC [0, 0, 1, 0] { rs with ctx := { opsz := true } }
      s.Unlocked ∧ s.MayPop 0 s.opWidth.bytes ∧ 0xFFFF < (s.item 0 s.opWidth.bytes).toNat) ∧
      (let s := put 0xFFF8 [0, 0, 1, 0, 0, 0, 0, 0] ({ rs with ctx := { opsz := true } } : State)
      let s := s.setReg .w16 .esp 0xFFF8
      s.MayPop s.opWidth.bytes s.opWidth.bytes ∧ 0xFFFF < (s.item 0 s.opWidth.bytes).toNat) :=
  ⟨rfl, rs_pop0, by decide, rs_pop1, by decide, ⟨rfl, State.checkPop_eq_ok.mp rfl, by decide⟩,
    State.checkPop_eq_ok.mp rfl, by decide⟩
theorem witness_NearAndRealFarReturnsComplete_stops :
    (let s := rs.setReg .w16 .esp 0xFFFF; s.ctx.lock = false ∧ failingItem (s.checkPop 0 s.opWidth.bytes) = true) ∧
      (let s := rs.setReg .w16 .esp 0xFFFD
      s.mode ≠ .prot ∧ s.inLimit .ss (s.stackUp (1 * s.opWidth.bytes)) s.opWidth.bytes = false) ∧
      (let s := lowOnly rs
      s.mode ≠ .prot ∧ (∀ j, j < 2 → s.inLimit .ss (s.stackUp (j * s.opWidth.bytes)) s.opWidth.bytes = true) ∧
        s.backRefusal ((List.range 2).flatMap fun j => s.addrs .ss (s.stackUp (j * s.opWidth.bytes)) s.opWidth.bytes) =
          some .unbackedAddress) := by decide

/-- The frame of vector L9: a return to the code segment 0008H at level 0. -/
def sameFrame : State := put 0xFFC [0, 1, 8, 0] (ps.setReg .w16 .esp 0xFFC)

theorem witness_FarReturnSameLevelCompletes :
    sameFrame.Unlocked ∧ sameFrame.mode = .prot ∧ sameFrame.MayPop 0 sameFrame.opWidth.bytes ∧
      sameFrame.MayPop sameFrame.opWidth.bytes 2 ∧ rplOf sameFrame.returnSel = sameFrame.cpl ∧
      4 ≤ sameFrame.returnSel.toNat ∧
      ∃ d, sameFrame.readDescriptor sameFrame.returnSel = .ok (some d) ∧ d.rights.kind = .code true false ∧
        d.rights.dpl = sameFrame.cpl ∧ d.rights.present = true ∧
        (sameFrame.item 0 sameFrame.opWidth.bytes).toNat ≤ d.limit.toNat :=
  ⟨rfl, rfl, State.checkPop_eq_ok.mp rfl, State.checkPop_eq_ok.mp rfl, by decide, by decide, _, rfl, rfl, rfl, rfl,
    by decide⟩
/-- The frame with another selector, and a table whose entry 30H is a code segment that is not present. -/
def frameOf (sel : Byte) : State := put 0xFFE [sel, 0] (put 0x5035 [0x1A] sameFrame)

theorem witness_FarReturnSameLevelCompletes_stops :
    (let s := sameFrame.setReg .w16 .esp 0xFFFD; s.inLimit .ss (s.stackUp s.opWidth.bytes) 2 = false) ∧
      (let s : State := { sameFrame with cpl := 3 }
      s.checkPop s.opWidth.bytes 2 = .ok () ∧ s.returnSel.toNat % 4 < s.cpl.toNat) ∧
      (let s := frameOf 0; s.checkPop s.opWidth.bytes 2 = .ok () ∧ s.returnSel.toNat % 4 = s.cpl.toNat ∧
        s.returnSel.toNat < 4) ∧
      (let s := frameOf 0x38; 4 ≤ s.returnSel.toNat ∧ s.readDescriptor s.returnSel = .ok none ∧
        (returnCodeFault s.returnSel s.cpl none).isSome = true) ∧
      (let s := frameOf 0x10; ∃ d, s.readDescriptor s.returnSel = .ok (some d) ∧
        returnCodeFault s.returnSel s.cpl (some d) = some (.exception .generalProtection (some 0x10))) ∧
      (let s := frameOf 0x30; ∃ d, s.readDescriptor s.returnSel = .ok (some d) ∧
        returnCodeFault s.returnSel s.cpl (some d) = some (.exception .segmentNotPresent (some 0x30))) ∧
      (let s := put 1 [8, 0] (sameFrame.setReg .w16 .esp 0xFFFF)
      s.checkPop s.opWidth.bytes 2 = .ok () ∧ s.returnSel = 8 ∧ s.inLimit .ss (s.stackUp 0) s.opWidth.bytes = false) ∧
      (let s := put 0xFFC [0, 0x20] (put 0x5008 [0xFF, 0x0F] sameFrame)
      s.checkPop 0 s.opWidth.bytes = .ok () ∧ ∃ d, s.readDescriptor s.returnSel = .ok (some d) ∧
        returnCodeFault s.returnSel s.cpl (some d) = none ∧ d.limit.toNat < (s.item 0 s.opWidth.bytes).toNat) := by
  refine ⟨by decide, by decide, by decide, by decide, ⟨_, rfl, ?_⟩, ⟨_, rfl, ?_⟩, by decide, by decide, _, rfl, ?_, ?_⟩ <;>
    first | rfl | decide

/-- The frame of vector L13: a return to level 3. -/
def outerFrame : State :=
  put 0xFF8 [0, 1, 0x1B, 0, 0, 0x20, 0x23, 0] (withTable outerGdt ((inProtected rs).setReg .w16 .esp 0xFF8))

theorem witness_FarReturnOuterLevelCompletes :
    outerFrame.Unlocked ∧ outerFrame.mode = .prot ∧ outerFrame.cpl.toNat < (rplOf outerFrame.returnSel).toNat ∧
      4 ≤ outerFrame.returnSel.toNat ∧ outerFrame.opWidth.bytes = 2 ∧
      outerFrame.inLimit .ss (outerFrame.stackUp 0) 8 = true ∧ outerFrame.MayPop 2 2 ∧ outerFrame.MayPop 0 2 ∧
      outerFrame.MayPop 4 2 ∧ outerFrame.MayPop 6 2 ∧ (outerFrame.item 6 2).extractLsb' 0 16 = 0x23 ∧
      rplOf 0x23 = rplOf outerFrame.returnSel ∧
      ∃ d e u, outerFrame.readDescriptor outerFrame.returnSel = .ok (some d) ∧ d.rights.kind = .code true false ∧
        d.rights.dpl = rplOf outerFrame.returnSel ∧ d.rights.present = true ∧
        (outerFrame.item 0 2).toNat ≤ d.limit.toNat ∧ outerFrame.readDescriptor 0x23 = .ok (some e) ∧
        e.rights.writable = true ∧ e.rights.dpl = 3 ∧ e.rights.present = true ∧
        (({ (outerFrame.setSeg .cs (segmentOf outerFrame.returnSel d)).setSeg .ss (segmentOf 0x23 e) with
            cpl := 3 } : State).setReg .w16 .esp (outerFrame.item 4 2)).dropSegs = .ok u :=
  ⟨rfl, rfl, by decide, by decide, rfl, by decide, State.checkPop_eq_ok.mp rfl, State.checkPop_eq_ok.mp rfl,
    State.checkPop_eq_ok.mp rfl, State.checkPop_eq_ok.mp rfl, by decide, by decide, _, _, _, rfl, rfl, rfl, rfl,
    by decide, rfl, rfl, rfl, rfl, rfl⟩
theorem witness_FarReturnOuterLevelCompletes_dropped :
    (outerFrame.seg .ds).valid = true ∧ outerFrame.readDescriptor (outerFrame.seg .ds).sel = .ok
      (some (decodeDescriptor 0)) ∧ (outerFrame.setSeg .ds { flat with valid := false }).segs.ds.valid = false ∧
      ∃ t, outerFrame.dropSegs = .ok t := ⟨rfl, rfl, rfl, _, rfl⟩
/-- The frame of the return to level 3 with the selectors, and the offset, of the test at hand. -/
def outerOf (offset sel ss : Byte) : State := put 0xFF8 [0, offset, sel, 0, 0, 0x20, ss, 0] outerFrame

theorem witness_FarReturnOuterLevelCompletes_stops :
    (let s := put 0xFFFC [0x1B, 0] (outerFrame.setReg .w16 .esp 0xFFFA)
    s.checkPop s.opWidth.bytes 2 = .ok () ∧ s.cpl.toNat < (rplOf s.returnSel).toNat ∧
      s.inLimit .ss (s.stackUp 0) (4 * s.opWidth.bytes) = false) ∧
      (let s := outerOf 1 3 0x23
      s.cpl.toNat < (rplOf s.returnSel).toNat ∧ s.inLimit .ss (s.stackUp 0) (4 * s.opWidth.bytes) = true ∧
        s.returnSel.toNat < 4) ∧
      (let s := outerOf 1 0x23 0x23; ∃ d, s.readDescriptor s.returnSel = .ok (some d) ∧
        returnCodeFault s.returnSel 3 (some d) = some (.exception .generalProtection (some 0x20))) ∧
      (let s := outerOf 1 0x1B 3
      s.checkPop (2 * s.opWidth.bytes) s.opWidth.bytes = .ok () ∧ s.checkPop (3 * s.opWidth.bytes) 2 = .ok () ∧
        ((s.item (3 * s.opWidth.bytes) 2).extractLsb' 0 16).toNat < 4) ∧
      (let s := outerOf 1 0x1B 0x1B; ∃ d e, s.readDescriptor s.returnSel = .ok (some d) ∧
        returnCodeFault s.returnSel 3 (some d) = none ∧ s.readDescriptor 0x1B = .ok (some e) ∧
        returnStackFault 0x1B 3 (some e) = some (.exception .generalProtection (some 0x18))) ∧
      (let s := put 0x5018 [0xFF, 0] (outerOf 1 0x1B 0x23); ∃ d e, s.readDescriptor s.returnSel = .ok (some d) ∧
        s.readDescriptor 0x23 = .ok (some e) ∧ returnStackFault 0x23 3 (some e) = none ∧
        s.checkPop 0 s.opWidth.bytes = .ok () ∧ d.limit.toNat < (s.item 0 s.opWidth.bytes).toNat) := by
  refine ⟨by decide, by decide, ⟨_, rfl, ?_⟩, by decide, ⟨_, _, rfl, ?_, rfl, ?_⟩, ⟨_, _, rfl, rfl, ?_, by decide, ?_⟩⟩ <;>
    first | rfl | decide

/-- The host accepts no branch of general knowledge. -/
def noBranches : State := { rs with cfg := { acceptGkBranches := false } }

theorem witness_ConditionalJumpsComplete_refused :
    noBranches.Unlocked ∧ noBranches.cfg.acceptGkBranches = false := ⟨rfl, rfl⟩
theorem witness_CountedAndPlainJumpsComplete_refused :
    noBranches.Unlocked ∧ noBranches.cfg.acceptGkBranches = false := ⟨rfl, rfl⟩
theorem witness_ConditionalJumpsComplete :
    rs.Unlocked ∧ rs.cfg.acceptGkBranches = true ∧ rs.flags.cond 0x4 = false ∧ rs.flags.cond 0x5 = true ∧
      (rs.relTarget 0).toNat ≤ 0xFFFF ∧ ps.mode = .prot ∧
      (ps.setSeg .cs { flat with limit := 0x100 }).codeLimit <
        ((ps.setSeg .cs { flat with limit := 0x100 }).relTarget 0).toNat :=
  ⟨rfl, rfl, by decide, by decide, by decide, by decide, by decide⟩
theorem witness_CountedAndPlainJumpsComplete :
    rs.Unlocked ∧ rs.cfg.acceptGkBranches = true ∧ rs.count = 0 ∧ last.count ≠ 0 ∧ last.countDown.count = 0 ∧
      rs.countDown.count ≠ 0 := ⟨rfl, by decide⟩
theorem witness_FlagInstructions : rs.Unlocked := rfl
/-- A coprocessor with BUSY# and ERROR# as given. -/
def with387 (busy error : Bool) : State :=
  { rs with cfg := { has387 := true }, busyPin := busy, errorPin := error }

theorem witness_PlainFlagChangesComplete :
    rs.Unlocked ∧ (ps.mode = .prot ∧ ps.cpl.toNat = ps.flags.iopl.toNat) ∧ (vs.mode = .v86 ∧ vs.flags.iopl = 3) ∧
      ({ rs with cr0 := 8 } : State).cr0.getLsbD 3 = true ∧ (with387 true false).Unlocked ∧
      (with387 true false).cr0.getLsbD 3 = false ∧ (with387 true false).cfg.has387 = true ∧
      (with387 true false).busyPin = true ∧ (with387 false true).busyPin = false ∧
      (with387 false true).errorPin = true ∧ rs.cfg.has387 = false :=
  ⟨rfl, by decide, by decide, by decide, rfl, by decide⟩
/-- Virtual 8086 mode with IOPL 2, where STI and CLI fault by `V86_STI_FAULTS`. -/
def vsFaults : State := setf (fun f => { f with iopl := 2 }) { vs with cfg := { v86StiFaults := true } }

theorem witness_FlagAccessFaults :
    us.Unlocked ∧ us.mode = .prot ∧ us.flags.iopl.toNat < us.cpl.toNat ∧ vsFaults.Unlocked ∧ vsFaults.mode = .v86 ∧
      vsFaults.cfg.v86StiFaults = true ∧ vsFaults.flags.iopl ≠ 3 :=
  ⟨rfl, by decide, by decide, rfl, by decide⟩
theorem witness_ExchangeTranslateAndSetComplete :
    rs.Unlocked ∧ rs.LockFits bx ∧ rs.MayWrite .b8 (rs.place bx) ∧ rs.MayWrite rs.opWidth (rs.place bx) ∧
      (0xFFFE : Word).toNat = (rs.regs.ebx.toNat + rs.regs.eax.toNat % 2 ^ 8) % 2 ^ rs.addrWidth.bits ∧
      rs.MayRead .b8 (.mem (rs.segOr .ds) 0xFFFE) :=
  ⟨rfl, fun _ => ⟨_, rfl⟩, rs_write8, rs_write16, by decide, State.checkRead_eq_ok.mp rfl⟩
/-- 16-bit addressing in protected mode with a data segment above 64 KB, where BASE wraps to offset 0. -/
def wrapped : State := (ps.setSeg .ds { flat with limit := 0x10003 }).setReg .w16 .ebx 0xFFFE
theorem witness_ExchangeTranslateAndSetComplete_stops :
    edge.ctx.lock = false ∧
      nulls.ctx.lock = false ∧
      failing edge .write edge.opWidth (edge.place bx) = true ∧
      failing nulls .write .b8 (nulls.place bx) = true ∧
      (0xFFFE : Word).toNat = (nulls.regs.ebx.toNat + nulls.regs.eax.toNat % 2 ^ 8) % 2 ^ nulls.addrWidth.bits ∧
      failing nulls .read .b8 (.mem (nulls.segOr .ds) 0xFFFE) = true := by decide

theorem witness_TableStoresComplete :
    (let s := rs.setReg .w16 .ebx 0xFFFA
    s.Unlocked ∧ s.place bx = .mem .ds 0xFFFA ∧ s.accessFault .write .ds 0xFFFA 6 = none ∧
      s.MayAccess .write .ds 0xFFFA 2 ∧ s.MayAccess .write .ds 0xFFFC 4 ∧
      (0xFFFC : Word).toNat = ((0xFFFA : Word).toNat + 2) % 2 ^ s.addrWidth.bits) ∧
      (wrapped.place bx = .mem .ds 0xFFFE ∧ wrapped.accessFault .write .ds 0xFFFE 6 = none ∧
        wrapped.MayAccess .write .ds 0xFFFE 2 ∧ wrapped.MayAccess .write .ds 0 4 ∧
        (0 : Word).toNat = ((0xFFFE : Word).toNat + 2) % 2 ^ wrapped.addrWidth.bits) ∧
      (∃ f, (rs.setReg .w16 .ebx 0xFFFB).accessFault .write .ds 0xFFFB 6 = some f) ∧
      (let s : State := { rs.setReg .w16 .ebx 0 with cfg := { memoryMap := .regions [⟨0, 2, .ram⟩] } }
      s.accessFault .write .ds 0 6 = none ∧ s.MayAccess .write .ds 0 2 ∧ failing s .write .d32 (.mem .ds 2) = true) ∧
      (let s : State := { rs.setReg .w16 .ebx 0 with cfg := { memoryMap := .regions [] } }
      s.accessFault .write .ds 0 6 = none ∧ failing s .write .w16 (.mem .ds 0) = true) ∧
      rs.opSize = .s16 ∧ ({ rs with ctx := { opsz := true } } : State).opSize = .s32 :=
  ⟨⟨rfl, rfl, rfl, State.checkAccess_eq_ok.mp rfl, State.checkAccess_eq_ok.mp rfl, rfl⟩,
    ⟨rfl, rfl, State.checkAccess_eq_ok.mp rfl, State.checkAccess_eq_ok.mp rfl, rfl⟩, ⟨_, rfl⟩,
    ⟨rfl, State.checkAccess_eq_ok.mp rfl, by decide⟩, ⟨rfl, by decide⟩, rfl, rfl⟩
theorem witness_SelectorInstructionsComplete :
    rs.Unlocked ∧ rs.mode ≠ .prot ∧ vs.mode ≠ .prot ∧ ps.Unlocked ∧ ps.mode = .prot ∧ ps.MayWrite .w16 (ps.place bx) ∧
      ps.MayRead .w16 (ps.place bx) ∧ (ps.readAt .w16 (ps.place bx)).toNat < 4 ∧
      (let s := ps.setReg .w16 .eax 0x10
      4 ≤ (s.readAt .w16 (s.place (.reg .eax))).toNat ∧ ∃ d, s.readDescriptor 0x10 = .ok (some d)) :=
  ⟨rfl, by decide, by decide, rfl, rfl, State.checkWrite_eq_ok.mp rfl, State.checkRead_eq_ok.mp rfl, by decide,
    by decide, _, rfl⟩
theorem witness_SelectorInstructionsComplete_stops :
    nulls.ctx.lock = false ∧
      nulls.mode = .prot ∧
      failing nulls .write .w16 (nulls.place bx) = true ∧
      failing nulls .read .w16 (nulls.place bx) = true := by decide
theorem witness_PrefixBytesComplete :
    rs.ctx.seg = none ∧ rs.ctx.opsz = false ∧ rs.ctx.adsz = false ∧ rs.ctx.rep = none ∧ rs.ctx.lock = false ∧
      (let s : State := { rs with ctx := { opsz := true, adsz := true, seg := some .es, lock := true } }
      s.ctx.seg ≠ none ∧ s.ctx.opsz = true ∧ s.ctx.adsz = true ∧ s.ctx.lock = true) ∧
      ({ rs with ctx := { rep := some .repe } } : State).ctx.rep ≠ none := by decide
theorem witness_EncodingOnlyInstructionsStop : rs.Unlocked ∧ ps.Unlocked ∧ ps.mode = .prot := ⟨rfl, rfl, by decide⟩
theorem witness_LockIsRefusedElsewhere :
    ({ rs with ctx := { lock := true } } : State).ctx.lock = true ∧ isPrefix .nop = false ∧ acceptsLock .nop = false ∧
      acceptsLock (.subRm8R8 (.reg .eax) .ecx) = false := by decide

/-- Each of the instructions answers a next state. -/
def allRun (s : State) (is : List Instr) : Bool := is.all fun i => isNext (exec i s)

theorem witness_FrameOfOperandForms :
    allRun rs [.orRm8R8 bx .ecx, .orRm8Imm8 bx 1, .orRmvRv bx .ecx, .orRmvImmv bx 0x20, .orRmvImm8 bx 1,
      .sbbRm8R8 bx .ecx, .sbbRm8Imm8 bx 1, .sbbRmvRv bx .ecx, .sbbRmvImmv bx 0x20, .sbbRmvImm8 bx 1,
      .subRm8R8 bx .ecx, .subRm8Imm8 bx 1, .subRmvRv bx .ecx, .subRmvImmv bx 0x20, .subRmvImm8 bx 1,
      .xorRm8R8 bx .ecx, .xorRm8Imm8 bx 1, .xorRmvRv bx .ecx, .xorRmvImmv bx 0x20, .xorRmvImm8 bx 1, .notRm8 bx,
      .notRmv bx, .negRm8 bx, .negRmv bx, .rolRm8 bx .cl, .rolRmv bx .cl, .rorRm8 bx .cl, .rorRmv bx .cl,
      .rclRm8 bx .cl, .rclRmv bx .cl, .rcrRm8 bx .cl, .rcrRmv bx .cl, .shlRm8 bx .cl, .shlRmv bx .cl,
      .shrRm8 bx .cl, .shrRmv bx .cl, .sarRm8 bx .cl, .sarRmv bx .cl, .shldImm8 bx .ecx 1, .shldCl bx .ecx,
      .shrdImm8 bx .ecx 1, .shrdCl bx .ecx, .movRm8R8 bx .ecx, .movRm8Imm8 bx 1, .movRmvRv bx .ecx,
      .movRmvImmv bx 0x20, .movRm16Sreg bx .ds, .smsw bx, .seto bx, .setno bx, .setb bx, .setnb bx, .setz bx,
      .setnz bx, .setbe bx, .setnbe bx, .sets bx, .setns bx, .setp bx, .setnp bx, .setl bx, .setnl bx,
      .setle bx, .setnle bx, .xchgRm8R8 bx .ecx, .xchgRmvRv bx .ecx, .movMoffsAl 0x20, .movMoffsAx 0x20,
      .orR8Rm8 bx .ecx, .orRvRmv bx .ecx, .orAlImm8 1, .orAxImmv 0x20, .sbbR8Rm8 bx .ecx, .sbbRvRmv bx .ecx,
      .sbbAlImm8 1, .sbbAxImmv 0x20, .subR8Rm8 bx .ecx, .subRvRmv bx .ecx, .subAlImm8 1, .subAxImmv 0x20,
      .xorR8Rm8 bx .ecx, .xorRvRmv bx .ecx, .xorAlImm8 1, .xorAxImmv 0x20, .movR8Rm8 bx .ecx,
      .movReg8Imm8 .ecx 1, .movRvRmv bx .ecx, .movRegvImmv .ecx 0x20, .movsx8 bx .ecx, .movsx16 bx .ecx,
      .movzx8 bx .ecx, .movzx16 bx .ecx, .movAlMoffs 0x20, .movAxMoffs 0x20, .xlat, .mulRm8 bx, .mulRmv bx,
      .xchgAxReg .ecx, .movR32Cr .cr2 .ecx, .movR32Dr .dr0 .ecx, .movR32Tr .tr6 .ecx, .movTrR32 .tr6 .ecx,
      .testRm8R8 bx .ecx, .testRmvRv bx .ecx, .testRm8Imm8 bx 1, .testRmvImmv bx 0x20, .testAlImm8 1,
      .testAxImmv 0x20, .nop, .sahf, .clc, .stc, .cmc, .wait] = true ∧
      allRun ps [.sldt bx, .str bx, .verr bx, .verw bx] = true ∧
      allRun (rs.setReg .w16 .ebx 0xFFFA) [.sgdt bx, .sidt bx] = true ∧
      allRun wrapped [.sgdt bx, .sidt bx] = true := by decide

theorem witness_FrameOfStackAndControlForms :
    allRun rs [.pushReg .ecx, .pushRm bx, .pushImmv 0x20, .pushImm8 1, .pushEs, .pushCs, .pushSs, .pushDs, .pushFs,
      .pushGs, .pushf, .pusha, .popReg .ecx, .popRm (.reg .ecx), .popRm bx, .popf, .popEs, .popSs, .popDs,
      .popFs, .popGs, .movSregRm16 bx .ss, .retNear, .retNearImm 2, .retFar, .retFarImm 2, .jo (.short 0),
      .jno (.short 0), .jb (.short 0), .jnb (.short 0), .jz (.short 0), .jnz (.short 0), .jbe (.short 0),
      .jnbe (.short 0), .js (.short 0), .jns (.short 0), .jp (.short 0), .jnp (.short 0), .jl (.short 0),
      .jnl (.short 0), .jle (.short 0), .jnle (.short 0), .jcxz 1, .jmpRel8 1, .jmpRel 1, .loop 1, .loope 1,
      .loopne 1, .movCrR32 .cr2 .ecx, .movDrR32 .dr0 .ecx, .sti, .cli, .cld, .std] = true ∧
      allRun (rs.setReg .w16 .esp 0xFFF0) [.popa] = true ∧ allRun sameFrame [.retFar] = true ∧
      allRun outerFrame [.retFar] = true := by decide

theorem witness_FrameOfStringAndOutputForms :
    allRun rs [.movs8, .movsv, .scas8, .scasv, .stos8, .stosv, .outs8, .outsv, .outImm8Al 1, .outImm8Ax 1, .outDxAl,
      .outDxAx] = true ∧
      allRun last [.movs8, .movsv, .scas8, .scasv, .stos8, .stosv, .outs8, .outsv] = true := by decide

theorem witness_FlagsKept : allRun rs [.movRm8R8 bx .ecx, .wait, .pushf, .rolRm8 bx .cl, .rcrRmv bx .one] = true ∧
    allRun ps [.verr bx, .verw bx, .str bx] = true := by decide

theorem witness_DecodeEncode :
    Instr.wf .s16 .s16 (.movRvRmv bx .ecx) = true ∧
      Instr.wf .s32 .s32 (.pushImmv 0xFFFFFFFF) = true ∧ Instr.wf .s16 .s16 (.pushImmv 0xFFFF) = true := by decide

theorem base_coherent : base.Coherent :=
  ⟨by decide, fun _ => rfl, fun _ r _ => by cases r <;> exact ⟨⟨by decide, by decide⟩, by decide⟩,
    fun h => absurd h (by decide)⟩

/-- Protected mode at level 0 with a NOP at EIP. -/
def nopProt : State := code 0x100 0x100 [0x90] [inProtected]

theorem witness_StepKeepsCoherent :
    (base.Coherent ∧ nopProt.Coherent) ∧ isNext (step nopProt) = true ∧
      isNext (step (code 0x100 0x100 [0x90] [])) = true :=
  ⟨⟨base_coherent, by decide, fun h => absurd h (by decide), fun h => absurd rfl h, fun _ => by decide⟩, by decide,
    by decide⟩
theorem witness_StepKeepsControlState :
    isNext (step nopProt) = true ∧ isNext (step (code 0x100 0x100 [0x0F, 0x22, 0xC0] [setr .d32 .eax 0x11])) = true ∧
      isNext (step (code 0x100 0x100 [0xEE] [])) = true := by decide

/-- A 66 prefix before MOV EAX, EBX at EIP. -/
def prefixed : State := code 0x100 0x100 [0x66, 0x89, 0xD8] []

theorem witness_StepRunsTheDecodedInstruction :
    prefixed.unsteppable = none ∧ prefixed.fresh.window.1 = [0x66] ++ 0x89 :: 0xD8 :: List.replicate 12 0 ∧
      decodePrefix 0x66 = some .opsize ∧ decodePrefix 0x89 = none ∧
      (∃ u, exec .opsize prefixed.fresh = .next u ∧
        decode u.opSize u.addrSize (0x89 :: 0xD8 :: List.replicate 12 0) =
          .ok (.movRmvRv (.reg .eax) .ebx, List.replicate 12 0)) ∧
      (∀ j, j ≤ 14 → prefixed.fetchStop j = none) ∧ 14 < prefixed.cfg.maxInstructionLength ∧
      ((if prefixed.mode = .prot then prefixed.segs.cs.limit.toNat else 0xFFFF) < prefixed.eip.toNat + 0xFF00) ∧
      (let s := code 0x100 0x100 [0xD6] []
      s.unsteppable = none ∧ decodePrefix 0xD6 = none ∧
        decode s.fresh.opSize s.fresh.addrSize (0xD6 :: List.replicate 14 0) = .error (.rejected .reservedOpcode)) ∧
      (let s : State := { lastByte with ctx := { len := 1 } }
      2 ^ 32 ≤ s.eip.toNat + s.ctx.len ∧ (s.retireWith .none).unsteppable = none) ∧
      (let s : State := { base with nmiPending := true }
      s.flags.tf = false ∧ s.pg = false ∧ s.dr7.extractLsb' 0 8 = 0 ∧ s.inhibit ≠ .all) ∧
      (let s : State := { base with intrPending := true, flags := { base.flags with ifl := true } }
      s.flags.tf = false ∧ s.flags.ifl = true ∧ s.inhibit = .none) := by
  refine ⟨by decide, by decide, by decide, by decide, ⟨_, rfl, by decide⟩, fun j h => ?_, by decide, by decide, by decide,
    by decide, by decide, by decide⟩
  interval_cases j <;> decide

end Sys2Proof.Tests
end

section
/-! The values and flags of arithmetic: truncation and signed reading of a width, `Sub_N` and `SetSZP_N` (rules R6, R9,
R262), with the statements about them settled. -/

namespace Sys2Proof.Machine

/-! ### Values of a width (rule R6) -/

@[simp] theorem Width.trunc_toNat (w : Width) (v : Word) : (w.trunc v).toNat = v.toNat % 2 ^ w.bits := by
  cases w with
  | b8 | w16 => simp [Width.trunc, Width.bits]; omega
  | d32 => exact (Nat.mod_eq_of_lt v.isLt).symm

/-- `signed_N` is the representative, balanced around zero, of the value modulo `2 ^ N`. -/
theorem Width.signed_eq_bmod (w : Width) (v : Word) : w.signed v = (v.toNat : Int).bmod (2 ^ w.bits) := by
  cases w with
  | b8 | w16 => simp [Width.signed, Width.bits, BitVec.toInt_eq_toNat_bmod]; exact Int.emod_bmod ..
  | d32 => exact BitVec.toInt_eq_toNat_bmod v

theorem Width.two_pow_bits (w : Width) : 2 ^ w.bits = 2 * 2 ^ (w.bits - 1) := by cases w <;> rfl

/-- The balanced representative of a number is the number itself exactly when it is a signed value of the width. -/
theorem Width.bmod_eq_self_iff (w : Width) (x : Int) :
    x.bmod (2 ^ w.bits) = x ↔ -2 ^ (w.bits - 1) ≤ x ∧ x < 2 ^ (w.bits - 1) := by
  rw [Int.bmod_eq_iff (Nat.two_pow_pos _), w.two_pow_bits]
  simp
  omega

/-! ### Sub_N (rule R9) -/

theorem subtract_r_toNat (w : Width) (a b : Word) (c : Bool) :
    ((subtract w a b c).r.toNat : Int) = ((a.toNat : Int) - b.toNat - c.toNat) % 2 ^ w.bits := by
  have := c.toNat_le
  cases w <;> simp [subtract, Width.bits, BitVec.toNat_sub] <;> omega

/-- A difference of balanced representatives is congruent to the difference of the numbers. -/
theorem bmod_sub_bmod_sub (x y z : Int) (n : Nat) : (x.bmod n - y.bmod n - z).bmod n = (x - y - z).bmod n := by
  rw [sub_right_comm, Int.sub_bmod_bmod, sub_sub, Int.bmod_sub_bmod, ← sub_sub, sub_right_comm]

/-- The signed value of the result is the exact signed difference brought back into the signed values of the width. -/
theorem signed_subtract_r (w : Width) (a b : Word) (c : Bool) :
    w.signed (subtract w a b c).r = (w.signed a - w.signed b - c.toNat).bmod (2 ^ w.bits) := by
  have modulus : (2 : Int) ^ w.bits = (2 ^ w.bits : Nat) := by simp
  simp only [Width.signed_eq_bmod, subtract_r_toNat, bmod_sub_bmod_sub, modulus, Int.emod_bmod]

theorem subtract_ofl_iff (w : Width) (a b : Word) (c : Bool) :
    (subtract w a b c).ofl = true ↔ w.signed (subtract w a b c).r ≠ w.signed a - w.signed b - c.toNat := by
  rw [signed_subtract_r, Ne, w.bmod_eq_self_iff]
  simp only [subtract, decide_eq_true_eq]
  omega

/-! ### SetSZP_N and the flags of logical results (rules R9, R262) -/

/-- The exclusive or of a list of bits says whether it holds an odd number of 1 bits. -/
theorem foldr_xor_eq_odd_count {α : Type} (p : α → Bool) (l : List α) :
    l.foldr (fun i odd => p i ^^ odd) false = decide ((l.filter p).length % 2 = 1) := by
  induction l with
  | nil => rfl
  | cons i l ih =>
    cases hp : p i with
    | false => simp [hp, ih]
    | true => simp [hp, ih, ← decide_not]; omega

theorem parity8_iff (r : Word) :
    parity8 r = true ↔ ((List.range 8).filter (r.getLsbD ·)).length % 2 = 0 := by
  have odd : parity8 r = !(List.range 8).foldr (fun i odd => r.getLsbD i ^^ odd) false := by
    simp [parity8, List.range_succ]
  rw [odd, foldr_xor_eq_odd_count]
  simp

theorem Flags.setSZP_sf (f : Flags) (w : Width) (r : Word) : (f.setSZP w r).sf = r.getLsbD (w.bits - 1) := rfl

theorem Flags.setSZP_zf_iff (f : Flags) (w : Width) (r : Word) : (f.setSZP w r).zf = true ↔ r = 0 := beq_iff_eq

theorem Flags.setSZP_pf_iff (f : Flags) (w : Width) (r : Word) :
    (f.setSZP w r).pf = true ↔ ((List.range 8).filter (r.getLsbD ·)).length % 2 = 0 := parity8_iff r

theorem Flags.setSZP_keepsControl (f : Flags) (w : Width) (r : Word) : f.KeepsControl (f.setSZP w r) where
  tf := rfl
  ifl := rfl
  df := rfl
  iopl := rfl
  nt := rfl
  rf := rfl
  vm := rfl

/-- The flags of a logical result, AF being bit 4 of the free value drawn. -/
theorem State.logicFlags_eq (s : State) (w : Width) (r : Word) :
    s.logicFlags w r =
      (s.setFlags { s.flags.setSZP w r with cf := false, ofl := false, af := s.nextDraw.getLsbD 4 }).drawn := rfl

/-! ### The statements -/

/-- Settles O1: the result is a residue modulo `2 ^ N`, and OF compares the exact signed difference with the balanced
residue that the result stands for. -/
theorem subtractionIsExact : Obligations.SubtractionIsExact := fun w a b c _ _ =>
  ⟨subtract_r_toNat w a b c, decide_eq_true_iff, subtract_ofl_iff w a b c, decide_eq_true_iff⟩

/-- Settles O2: SF, ZF and PF by `SetSZP_N`'s own lemmas; the operations are their definitions over them. -/
theorem statusFlagsOfAResult : Obligations.StatusFlagsOfAResult := fun s f w _ _ r _ =>
  ⟨f.setSZP_sf w r, f.setSZP_zf_iff w r, f.setSZP_pf_iff w r, f.setSZP_keepsControl w r, rfl, rfl, rfl, rfl,
    ⟨_, s.logicFlags_eq w r⟩, rfl, rfl, rfl, rfl⟩

end Sys2Proof.Machine
end

section
/-! The instructions that have an encoding and no semantics (rule R480), with the statement about them settled. -/

namespace Sys2Proof.Machine

theorem State.noMeaning_refuses {s : State} (h : s.Unlocked) (mnemonic : String) :
    outcome (s.noMeaning mnemonic) = .refused (.noSemantics mnemonic) :=
  outcome_eq_refused.mpr (check_passes (State.noLock_eq_ok.mpr h))

theorem State.noMeaningProtected_refuses {s : State} (h : s.Unlocked) (hp : s.mode = .prot) (mnemonic : String) :
    outcome (s.noMeaningProtected mnemonic) = .refused (.noSemantics mnemonic) :=
  outcome_eq_refused.mpr
    ((check_passes (State.noLock_eq_ok.mpr h)).trans (check_passes (State.protectedOnly_eq_ok.mpr hp)))

/-- When each instruction of a table runs `meaning` of its mnemonic, and `meaning` refuses under the mnemonic it is
given, each instruction of the table is refused under its own. -/
theorem exec_refuses_of_table {s : State} {meaning : String → M State} {table : List (Instr × String)}
    (runs : table.map (fun q => exec q.1 s) = table.map fun q => outcome (meaning q.2))
    (refuses : ∀ mnemonic, outcome (meaning mnemonic) = .refused (.noSemantics mnemonic)) :
    ∀ q ∈ table, exec q.1 s = .refused (.noSemantics q.2) := fun q hq =>
  (List.map_inj_left.mp runs q hq).trans (refuses q.2)

/-- Settles O48: the dispatch sends every listed form to `State.noMeaning` or `State.noMeaningProtected` of its
mnemonic. -/
theorem encodingOnlyInstructionsStop : Obligations.EncodingOnlyInstructionsStop := fun s _ _ _ _ _ _ _ _ h =>
  ⟨exec_refuses_of_table (meaning := s.noMeaning) rfl (State.noMeaning_refuses h), fun hp =>
    exec_refuses_of_table (meaning := s.noMeaningProtected) rfl (State.noMeaningProtected_refuses h hp)⟩

end Sys2Proof.Machine
end

section
/-! Reset, the names of the general registers and the stack pointer (rules R20 to R22, R37, R47, R320, R321, R330), with
the statements about them settled. -/

namespace Sys2Proof.Machine

/-! ### Reset (rule R47) -/

theorem State.reset_seg {r : SegReg} (h : r ≠ .cs) : State.reset.seg r = resetDataSegment := by
  cases r with
  | cs => exact absurd rfl h
  | _ => rfl

/-- The data segments after reset are those a load of selector 0 forms (rule R74). -/
theorem resetDataSegment_realFormed : resetDataSegment.realFormed := ⟨by decide, rfl⟩

/-- Settles O60: each value is the default of its field, the data segments by the one segment they all hold. -/
theorem resetValues : Obligations.ResetValues := by
  refine ⟨by decide, by decide, rfl, ⟨rfl, rfl, rfl, rfl, false, rfl⟩, fun r h => ?_, rfl, by decide, by decide,
    by decide, by decide, by decide, rfl, by decide, rfl, rfl⟩
  rw [State.reset_seg h]
  exact ⟨rfl, rfl, rfl, rfl, rfl⟩

/-- Settles O56: the start is in real-address mode, at level 0, with every data segment as a load there forms it. -/
theorem resetIsCoherent : Obligations.ResetIsCoherent where
  mem := Memory.wf_nil
  realLevel _ := rfl
  realSegs _ r h := by rw [State.reset_seg h]; exact ⟨resetDataSegment_realFormed, rfl⟩
  stack h := absurd h (by decide)

/-! ### Partial writes, bit by bit (rule R22) -/

theorem getLsbD_mergeLow16 (old v : Word) {i : Nat} (h : i < 32) :
    (mergeLow16 old v).getLsbD i = if i < 16 then v.getLsbD i else old.getLsbD i := by
  rw [mergeLow16, BitVec.getLsbD_append]
  split
  · simp [*]
  · have : i - 16 < 16 ∧ 16 + (i - 16) = i := by omega
    simp [this]

theorem getLsbD_mergeLow8 (old v : Word) {i : Nat} (h : i < 32) :
    (mergeLow8 old v).getLsbD i = if i < 8 then v.getLsbD i else old.getLsbD i := by
  rw [mergeLow8, BitVec.getLsbD_append]
  split
  · simp [*]
  · have : i - 8 < 24 ∧ 8 + (i - 8) = i := by omega
    simp [this]

theorem getLsbD_mergeHigh8 (old v : Word) {i : Nat} (h : i < 32) :
    (mergeHigh8 old v).getLsbD i = if 8 ≤ i ∧ i < 16 then v.getLsbD (i - 8) else old.getLsbD i := by
  rw [mergeHigh8, BitVec.getLsbD_append, BitVec.getLsbD_append]
  rcases Nat.lt_or_ge i 8 with low | low
  · simp [low, Nat.not_le.mpr low]
  · rcases Nat.lt_or_ge i 16 with mid | mid
    · have : ¬i < 8 ∧ i - 8 < 8 := by omega
      simp [this, low, mid]
    · have : ¬i < 8 ∧ ¬i - 8 < 8 ∧ ¬i < 16 ∧ i - 8 - 8 < 16 ∧ 16 + (i - 8 - 8) = i := by omega
      simp [this]

/-- The lowest bit of its home register that a byte name stands for (rule R21). -/
def byteShift (r : Reg) : Nat := if (byteHome r).2 then 8 else 0

theorem State.reg_b8 (s : State) (r : Reg) :
    s.reg .b8 r = ((s.regs.get (byteHome r).1).extractLsb' (byteShift r) 8).setWidth 32 := rfl

/-- A write changes the register file and nothing else (rule R22). -/
theorem State.setReg_eq (s : State) (w : Width) (r : Reg) (v : Word) :
    s.setReg w r v = { s with regs := (s.setReg w r v).regs } := by cases w <;> rfl

theorem GRegs.get_set (g : GRegs) (r q : Reg) (v : Word) : (g.set r v).get q = if q = r then v else g.get q := by
  split
  case isTrue h => rw [h, g.get_set_same]
  case isFalse h => exact g.get_set_other r q v h

theorem State.getLsbD_setReg_b8 (s : State) (r x : Reg) (v : Word) {i : Nat} (h : i < 32) :
    ((s.setReg .b8 r v).regs.get x).getLsbD i =
      if x = (byteHome r).1 ∧ byteShift r ≤ i ∧ i < byteShift r + 8 then v.getLsbD (i - byteShift r)
      else (s.regs.get x).getLsbD i := by
  by_cases hx : x = (byteHome r).1
  · subst hx
    cases hb : (byteHome r).2 <;> simp only [State.setReg, byteShift, hb, GRegs.get_set_same]
    · simpa using getLsbD_mergeLow8 _ _ h
    · simpa using getLsbD_mergeHigh8 _ _ h
  · rw [s.setReg_keeps .b8 r x v hx, if_neg fun c => hx c.1]

theorem State.getLsbD_setReg_w16 (s : State) (r x : Reg) (v : Word) {i : Nat} (h : i < 32) :
    ((s.setReg .w16 r v).regs.get x).getLsbD i =
      if x = r ∧ i < 16 then v.getLsbD i else (s.regs.get x).getLsbD i := by
  by_cases hx : x = r
  · simp [hx, getLsbD_mergeLow16 _ _ h]
  · rw [s.setReg_keeps .w16 r x v hx, if_neg fun c => hx c.1]

/-- Settles O7: the table lists the home register and the lowest bit of each byte name, and each width of write has its
bits said once. -/
theorem registerNamesAndPartialWrites : Obligations.RegisterNamesAndPartialWrites := by
  refine fun s r v => ⟨rfl, rfl, fun q hq => ?_, fun x i => s.getLsbD_setReg_w16 r x v,
    fun x => GRegs.get_set .., fun w => s.setReg_eq w r v⟩
  obtain ⟨home, shift⟩ : q.2.1 = (byteHome q.1).1 ∧ q.2.2 = byteShift q.1 := by revert q; decide
  rw [home, shift]
  exact ⟨s.reg_b8 q.1, fun x i => s.getLsbD_setReg_b8 q.1 x v⟩

/-! ### The stack pointer (rules R37, R320, R321) -/

theorem State.stackWidth_eq (s : State) :
    s.stackWidth = if s.mode = .prot ∧ (s.seg .ss).rights.big = true then .d32 else .w16 := by
  unfold State.stackWidth
  cases s.mode <;> simp [State.seg, Segments.get]

/-- A register read at 16 or 32 bits (rule R20). -/
theorem State.reg_toNat (s : State) {w : Width} (h : w ≠ .b8) (r : Reg) :
    (s.reg w r).toNat = (s.regs.get r).toNat % 2 ^ w.bits := by
  cases w with
  | b8 => exact absurd rfl h
  | w16 => simp [State.reg, Width.bits]; omega
  | d32 => exact (Nat.mod_eq_of_lt (s.regs.get r).isLt).symm

theorem Width.trunc_add_toNat (w : Width) (a : Word) (n : Nat) :
    (w.trunc (a + BitVec.ofNat 32 n)).toNat = (a.toNat + n) % 2 ^ w.bits := by
  rw [w.trunc_toNat]
  cases w <;> simp [Width.bits]

theorem Width.trunc_sub_toNat (w : Width) (a : Word) (n : Nat) :
    ((w.trunc (a - BitVec.ofNat 32 n)).toNat : Int) = ((a.toNat : Int) - n) % 2 ^ w.bits := by
  rw [w.trunc_toNat]
  cases w <;> simp [Width.bits, BitVec.toNat_sub] <;> omega

theorem State.pushed_eq (s : State) (n : Nat) (v : Word) :
    s.pushed n v = (s.store .ss (s.stackDown n) n v).setReg s.stackWidth .esp (s.stackDown n) := by
  rw [State.pushed, State.setSp, State.stackWidth_congr (s.mode_store ..) (s.store_segs ..)]

theorem State.push_out {s : State} {n : Nat} (v : Word)
    (h : (s.seg .ss).rights.writable = false ∨ s.inLimit .ss (s.stackDown n) n = false) :
    s.push n v = .error (.fault s.pushFault) :=
  check_stops (State.checkPush_out h)

/-- Settles O12: the width of the stack pointer by the mode and SS, its moves by the arithmetic of that width. -/
theorem stackPrimitives : Obligations.StackPrimitives := by
  intro s n v bits
  have width : s.stackWidth = if bits = 32 then .d32 else .w16 := by
    rw [s.stackWidth_eq]
    by_cases h : s.mode = .prot ∧ (s.seg .ss).rights.big = true <;> simp [bits, h]
  have widthBits : s.stackWidth.bits = bits := by
    rw [s.stackWidth_eq]
    by_cases h : s.mode = .prot ∧ (s.seg .ss).rights.big = true <;> simp [bits, h, Width.bits]
  have notByte : s.stackWidth ≠ .b8 := by rw [width]; split <;> decide
  rw [← width, ← widthBits]
  exact ⟨rfl, s.reg_toNat notByte .esp, Width.trunc_sub_toNat .., Width.trunc_add_toNat ..,
    fun h => State.push_eq_ok.mpr ⟨h, rfl⟩, fun h => by rw [State.push_out v h, s.pushFault_eq], s.pushed_eq n v, rfl⟩

end Sys2Proof.Machine
end

section
/-! What an instruction can change (rules R22, R72): `State.Touches` is the frame of the statements with the canonical form
of memory beside it, one rule per operation of the state, and one rule per shared meaning of an operand form. -/

namespace Sys2Proof.Machine

/-! ### Frames -/

theorem Flags.KeepsControl.refl (f : Flags) : f.KeepsControl f := ⟨rfl, rfl, rfl, rfl, rfl, rfl, rfl⟩

theorem Flags.KeepsControl.trans {f g h : Flags} (a : f.KeepsControl g) (b : g.KeepsControl h) : f.KeepsControl h where
  tf := b.tf.trans a.tf
  ifl := b.ifl.trans a.ifl
  df := b.df.trans a.df
  iopl := b.iopl.trans a.iopl
  nt := b.nt.trans a.nt
  rf := b.rf.trans a.rf
  vm := b.vm.trans a.vm

/-- The frame of an instruction, and that it keeps the canonical form of memory. -/
structure State.Touches (s t : State) (regs : List Reg) (bytes : List Nat) : Prop extends s.Frame t regs bytes where
  wf : s.mem.wf → t.mem.wf

theorem State.Touches.refl (s : State) : s.Touches s [] [] where
  system := ⟨rfl, rfl, rfl, rfl, rfl, rfl, rfl, rfl, fun _ => rfl, rfl, rfl, rfl, rfl, rfl⟩
  segs := rfl
  regs _ _ := rfl
  bytes _ _ := rfl
  control := .refl _
  ioOut := rfl
  wf := id

section
variable {s u : State} {rs : List Reg} {bs : List Nat}

/-- A frame may name more than is touched. -/
theorem State.Touches.mono (h : s.Touches u rs bs) {rs' : List Reg} {bs' : List Nat} (hr : rs ⊆ rs') (hb : bs ⊆ bs') :
    s.Touches u rs' bs' :=
  { h with
    regs := fun r c => h.regs r fun m => c (hr m)
    bytes := fun a c => h.bytes a fun m => c (hb m) }

/-- EIP, the interrupt shadow and the model's own bookkeeping are in no frame. -/
theorem State.Touches.bookkeeping (h : s.Touches u rs bs) {eip : Word} {carry : Bool} {i : Inhibit} {stored : List Nat}
    {c : Ctx} {n : Nat} :
    s.Touches { u with eip := eip, eipCarry := carry, inhibit := i, stored := stored, ctx := c, draws := n } rs bs where
  system := { h.system with dr := h.system.dr }
  segs := h.segs
  regs := h.regs
  bytes := h.bytes
  control := h.control
  ioOut := h.ioOut
  wf := h.wf

theorem State.Touches.retireWith (h : s.Touches u rs bs) {i : Inhibit} : s.Touches (u.retireWith i) rs bs := h.bookkeeping

theorem State.Touches.retire (h : s.Touches u rs bs) : s.Touches u.retire rs bs := h.bookkeeping

theorem State.Touches.again (h : s.Touches u rs bs) : s.Touches u.again rs bs := h.bookkeeping

theorem State.Touches.hold (h : s.Touches u rs bs) : s.Touches u.hold rs bs := h.bookkeeping

theorem State.Touches.jumpTo (h : s.Touches u rs bs) {x : Word} : s.Touches (u.jumpTo x) rs bs := h.bookkeeping

theorem State.Touches.latch (h : s.Touches u rs bs) {c : Ctx} : s.Touches (u.latch c) rs bs := h.bookkeeping

theorem State.Touches.withLength (h : s.Touches u rs bs) {n : Nat} : s.Touches (u.withLength n) rs bs := h.bookkeeping

theorem State.Touches.drawn (h : s.Touches u rs bs) : s.Touches u.drawn rs bs := h.bookkeeping

theorem State.Touches.setFlags (h : s.Touches u rs bs) {f : Flags} (c : u.flags.KeepsControl f) :
    s.Touches (u.setFlags f) rs bs where
  system := { h.system with dr := h.system.dr }
  segs := h.segs
  regs := h.regs
  bytes := h.bytes
  control := h.control.trans c
  ioOut := h.ioOut
  wf := h.wf

theorem State.Touches.setReg (h : s.Touches u rs bs) {w : Width} {r : Reg} {v : Word} :
    s.Touches (u.setReg w r v) (rs ++ (Place.reg r).regs w) bs := by
  have keeps : ∀ q, q ∉ rs ++ (Place.reg r).regs w → (u.setReg w r v).regs.get q = s.regs.get q := fun q c => by
    simp only [List.mem_append, not_or, Place.regs, List.mem_singleton] at c
    obtain ⟨before, here⟩ := c
    rw [u.setReg_keeps w r q v here, h.regs q before]
  rw [u.setReg_eq] at keeps ⊢
  exact {
    system := { h.system with dr := h.system.dr }
    segs := h.segs
    regs := keeps
    bytes := h.bytes
    control := h.control
    ioOut := h.ioOut
    wf := h.wf }

/-- A store: the addresses are those the operand has before the instruction. -/
theorem State.Touches.store (h : s.Touches u rs bs) {g : SegReg} {off v : Word} {n : Nat} :
    s.Touches (u.store g off n v) rs (bs ++ s.addrs g off n) := by
  have keeps : ∀ a, a ∉ bs ++ s.addrs g off n → (u.store g off n v).mem.read a = s.mem.read a := fun a c => by
    simp only [List.mem_append, not_or] at c
    obtain ⟨before, here⟩ := c
    rw [u.store_read_other v (State.addrs_congr h.segs h.system.cfg g off n ▸ here), h.bytes a before]
  have wf := fun m => State.store_wf (h.wf m) g off n v
  rw [u.store_eq] at keeps wf ⊢
  exact {
    system := { h.system with dr := h.system.dr }
    segs := h.segs
    regs := h.regs
    bytes := keeps
    control := h.control
    ioOut := h.ioOut
    wf := wf }

theorem State.Touches.writeAt (h : s.Touches u rs bs) {w : Width} {p : Place} {v : Word} :
    s.Touches (u.writeAt w p v) (rs ++ p.regs w) (bs ++ s.placeAddrs w p) := by
  cases p with
  | reg r => exact h.setReg.mono (List.Subset.refl _) (by simp)
  | mem g off => exact h.store.mono (by simp) (List.Subset.refl _)

end

/-! ### The flags of results -/

theorem Flags.ofDifference_keepsControl (f : Flags) (w : Width) (d : Difference) :
    f.KeepsControl (f.ofDifference w d) := ⟨rfl, rfl, rfl, rfl, rfl, rfl, rfl⟩

theorem Flags.logic_keepsControl (f : Flags) (w : Width) (r x : Word) : f.KeepsControl (f.logic w r x) :=
  ⟨rfl, rfl, rfl, rfl, rfl, rfl, rfl⟩

theorem Flags.undefined_keepsControl (f : Flags) (x : Word) : f.KeepsControl (f.undefined x) :=
  ⟨rfl, rfl, rfl, rfl, rfl, rfl, rfl⟩

theorem Flags.mul_keepsControl (f : Flags) (upper x : Word) : f.KeepsControl (f.mul upper x) :=
  ⟨rfl, rfl, rfl, rfl, rfl, rfl, rfl⟩

theorem Flags.neg_keepsControl (f : Flags) (w : Width) (a : Word) (d : Difference) (x : Word) :
    f.KeepsControl (f.neg w a d x) := ⟨rfl, rfl, rfl, rfl, rfl, rfl, rfl⟩

theorem Flags.doubleShift_keepsControl (f : Flags) (w : Width) (r : Word) (cf : Bool) (x : Word) :
    f.KeepsControl (f.doubleShift w r cf x) := ⟨rfl, rfl, rfl, rfl, rfl, rfl, rfl⟩

theorem Flags.shift_keepsControl (f : Flags) (k : Shift) (w : Width) (n : Nat) (a r : Word) (cf : Bool) (x : Word) :
    f.KeepsControl (f.shift k w n a r cf x) := by
  unfold Flags.shift
  dsimp only
  split
  · exact ⟨rfl, rfl, rfl, rfl, rfl, rfl, rfl⟩
  · split <;> exact ⟨rfl, rfl, rfl, rfl, rfl, rfl, rfl⟩

theorem Flags.sahf_keepsControl (f : Flags) (ah : Word) : f.KeepsControl (f.sahf ah) :=
  ⟨rfl, rfl, rfl, rfl, rfl, rfl, rfl⟩

theorem Flags.cf_keepsControl (f : Flags) (b : Bool) : f.KeepsControl { f with cf := b } :=
  ⟨rfl, rfl, rfl, rfl, rfl, rfl, rfl⟩

theorem Flags.zf_keepsControl (f : Flags) (b : Bool) : f.KeepsControl { f with zf := b } :=
  ⟨rfl, rfl, rfl, rfl, rfl, rfl, rfl⟩

section
variable {s u : State} {rs : List Reg} {bs : List Nat}

theorem State.Touches.logicFlags (h : s.Touches u rs bs) {w : Width} {r : Word} : s.Touches (u.logicFlags w r) rs bs :=
  (h.setFlags (u.flags.logic_keepsControl w r _)).drawn

theorem State.Touches.undefineFlags (h : s.Touches u rs bs) : s.Touches u.undefineFlags rs bs :=
  (h.setFlags (u.flags.undefined_keepsControl _)).drawn

end

/-- The function of two operands changes status flags only. -/
def Binary.FlagsOnly (f : Binary) : Prop := ∀ w a b (s : State), s.Touches (f w a b s).2 [] []

/-- The function of one operand changes status flags only. -/
def Unary.FlagsOnly (f : Unary) : Prop := ∀ w a (s : State), s.Touches (f w a s).2 [] []

theorem orOp_flagsOnly : Binary.FlagsOnly orOp := fun _ _ _ s => (State.Touches.refl s).logicFlags

theorem xorOp_flagsOnly : Binary.FlagsOnly xorOp := fun _ _ _ s => (State.Touches.refl s).logicFlags

theorem subOp_flagsOnly : Binary.FlagsOnly subOp := fun w _ _ s =>
  (State.Touches.refl s).setFlags (s.flags.ofDifference_keepsControl w _)

theorem sbbOp_flagsOnly : Binary.FlagsOnly sbbOp := fun w _ _ s =>
  (State.Touches.refl s).setFlags (s.flags.ofDifference_keepsControl w _)

theorem notOp_flagsOnly : Unary.FlagsOnly notOp := fun _ _ s => .refl s

theorem negOp_flagsOnly : Unary.FlagsOnly negOp := fun w a s =>
  ((State.Touches.refl s).setFlags (s.flags.neg_keepsControl w a _ _)).drawn

theorem shiftOp_flagsOnly (k : Shift) (n : Nat) : Unary.FlagsOnly fun w => shiftOp k w n := fun w a s =>
  ((State.Touches.refl s).setFlags (s.flags.shift_keepsControl k w n a _ _ _)).drawn

theorem doubleShiftOp_flagsOnly (value : Width → Word → Word → Nat → Word × Bool) (b : Word) (n : Nat) :
    Unary.FlagsOnly fun w => doubleShiftOp value w b n := fun w a s => by
  dsimp only [doubleShiftOp]
  split
  · exact ((State.Touches.refl s).drawn.setFlags (s.flags.undefined_keepsControl _)).drawn
  · exact ((State.Touches.refl s).setFlags (s.flags.doubleShift_keepsControl w _ _ _)).drawn

/-! ### Forms whose destination is the r/m operand -/

section
variable {s t : State} {w : Width} {rm : RM}

/-- The instruction changes its r/m operand, and the flags, at most. -/
abbrev State.TouchesOperand (s t : State) (w : Width) (rm : RM) : Prop :=
  s.Touches t ((s.place rm).regs w) (s.placeAddrs w (s.place rm))

theorem State.Touches.operand (h : s.Touches t [] []) : s.TouchesOperand t w rm := h.mono (by simp) (by simp)

theorem State.modifyRM_touches {f : Word → State → Word × State} (hf : ∀ a, s.Touches (f a s).2 [] [])
    (h : s.modifyRM w rm f = .ok t) : s.TouchesOperand t w rm := by
  obtain ⟨-, rfl⟩ := State.modifyRM_eq_ok.mp h
  exact (hf _).writeAt.retire

theorem State.writeRM_touches {v : Word} (h : s.writeRM w rm v = .ok t) : s.TouchesOperand t w rm := by
  obtain ⟨-, rfl⟩ := State.writeRM_eq_ok.mp h
  exact (State.Touches.refl s).writeAt.retire

theorem State.rmReg_touches {f : Binary} (hf : f.FlagsOnly) {r : Reg} (h : outcome (s.rmReg f w rm r) = .next t) :
    s.TouchesOperand t w rm :=
  have ⟨_, h⟩ := check_eq_ok.mp (outcome_eq_next.mp h)
  State.modifyRM_touches (fun _ => hf ..) h

theorem State.rmImm_touches {f : Binary} (hf : f.FlagsOnly) {v : Word} (h : outcome (s.rmImm f w rm v) = .next t) :
    s.TouchesOperand t w rm :=
  have ⟨_, h⟩ := check_eq_ok.mp (outcome_eq_next.mp h)
  State.modifyRM_touches (fun _ => hf ..) h

theorem State.rmUnary_touches {f : Unary} (hf : f.FlagsOnly) (h : outcome (s.rmUnary f w rm) = .next t) :
    s.TouchesOperand t w rm :=
  have ⟨_, h⟩ := check_eq_ok.mp (outcome_eq_next.mp h)
  State.modifyRM_touches (fun _ => hf ..) h

theorem State.shiftRM_touches {k : Shift} {n : Count} (h : outcome (s.shiftRM k w rm n) = .next t) :
    s.TouchesOperand t w rm :=
  have ⟨_, h⟩ := check_eq_ok.mp (outcome_eq_next.mp h)
  State.modifyRM_touches (fun _ => shiftOp_flagsOnly k _ w _ s) h

theorem State.doubleShift_touches {value : Width → Word → Word → Nat → Word × Bool} {r : Reg} {n : Nat}
    (h : outcome (s.doubleShift value rm r n) = .next t) : s.TouchesOperand t s.opWidth rm := by
  have ⟨_, h⟩ := check_eq_ok.mp (outcome_eq_next.mp h)
  split at h
  · obtain ⟨-, rfl⟩ := check_ok_eq_ok.mp h
    exact (State.Touches.refl s).retire.operand
  · exact State.modifyRM_touches (fun _ => doubleShiftOp_flagsOnly value _ _ _ _ s) h

theorem State.movToRM_touches {v : Word} (h : outcome (s.movToRM w rm v) = .next t) : s.TouchesOperand t w rm :=
  have ⟨_, h⟩ := check_eq_ok.mp (outcome_eq_next.mp h)
  State.writeRM_touches h

theorem State.setCond_touches {c : BitVec 4} (h : outcome (s.setCond c rm) = .next t) : s.TouchesOperand t .b8 rm :=
  have ⟨_, h⟩ := check_eq_ok.mp (outcome_eq_next.mp h)
  State.writeRM_touches h

theorem State.storeSel_touches {sel : Half} (h : outcome (s.storeSel sel rm) = .next t) : s.TouchesOperand t .w16 rm :=
  have ⟨_, h⟩ := check_eq_ok.mp (outcome_eq_next.mp h)
  have ⟨_, h⟩ := check_eq_ok.mp h
  State.writeRM_touches h

/-- A word in memory, or the whole register with `OpSize` 32 (rules R207, R464). -/
theorem State.writeHalf_touches {v : Half} (h : s.writeHalf rm v = .ok t) : s.TouchesOperand t .w16 rm := by
  unfold State.writeHalf at h
  split at h
  · cases h
    exact (State.Touches.refl s).drawn.setReg.retire
  · exact State.writeRM_touches h

theorem execMovRm16Sreg_touches {sr : SegReg} (h : exec (.movRm16Sreg rm sr) s = .next t) : s.TouchesOperand t .w16 rm :=
  have ⟨_, h⟩ := check_eq_ok.mp (outcome_eq_next.mp h)
  State.writeHalf_touches h

theorem execSmsw_touches (h : exec (.smsw rm) s = .next t) : s.TouchesOperand t .w16 rm :=
  have ⟨_, h⟩ := check_eq_ok.mp (outcome_eq_next.mp h)
  State.writeHalf_touches h

/-- XCHG r/m, r writes its register as well (rule R448). -/
theorem State.xchgRM_touches {r : Reg} (h : outcome (s.xchgRM w rm r) = .next t) :
    s.Touches t ((s.place rm).regs w ++ (Place.reg r).regs w) (s.placeAddrs w (s.place rm)) := by
  have ⟨_, h⟩ := check_eq_ok.mp (outcome_eq_next.mp h)
  obtain ⟨-, rfl⟩ := check_ok_eq_ok.mp h
  exact (State.Touches.refl s).writeAt.setReg.retire

end

/-! ### Other forms that store -/

section
variable {s t : State}

theorem State.movMoffsAcc_touches {w : Width} {off : Word} (h : outcome (s.movMoffsAcc w off) = .next t) :
    s.Touches t [] (s.addrs (s.segOr .ds) off w.bytes) := by
  have ⟨_, h⟩ := check_eq_ok.mp (outcome_eq_next.mp h)
  obtain ⟨u, hu, h⟩ := bind_eq_ok.mp h
  obtain ⟨-, rfl⟩ := State.memWrite_eq_ok.mp hu
  cases h
  exact (State.Touches.refl s).store.retire

/-- The addresses SGDT and SIDT store to: LIMIT at the operand and BASE two bytes on (rule R460). -/
theorem State.storeTable_touches {x : TableReg} {rm : RM} (h : outcome (s.storeTable x rm) = .next t) :
    s.Touches t [] (match s.place rm with
      | .reg _ => []
      | .mem g off => s.addrs g off 2 ++ s.addrs g (s.tableBaseOff off) 4) := by
  obtain ⟨-, g, off, hp, -, rfl⟩ := State.storeTable_eq_ok.mp (outcome_eq_next.mp h)
  rw [hp]
  exact (State.Touches.refl s).drawn.store.store.retire

end

/-! ### Forms that write registers and flags only -/

/-- A full-size register operand is the register of its number (rule R121). -/
theorem Place.regs_ofSize (sz : Size) (r : Reg) : (Place.reg r).regs (.ofSize sz) = [r] := by cases sz <;> rfl

/-- The product of bytes goes to AX (rule R260). -/
theorem State.setProduct_touches_b8 (s : State) (p : Nat) : s.Touches (s.setProduct .b8 p) [.eax] [] :=
  (State.Touches.refl s).setReg (w := .w16) (r := .eax)

/-- The product of full-size operands goes to (E)DX and (E)AX (rule R260). -/
theorem State.setProduct_touches_ofSize (s : State) (sz : Size) (p : Nat) :
    s.Touches (s.setProduct (.ofSize sz) p) [.eax, .edx] [] := by
  have both := fun a b =>
    ((State.Touches.refl s).setReg (w := .ofSize sz) (r := .edx) (v := a)).setReg (w := .ofSize sz) (r := .eax) (v := b)
  simp only [Place.regs_ofSize] at both
  cases sz <;> exact (both _ _).mono (by decide) (by simp)

theorem State.setProduct_flags (s : State) (w : Width) (p : Nat) : (s.setProduct w p).flags = s.flags := by
  cases w <;> simp [State.setProduct]

section
variable {s t : State} {w : Width} {rm : RM} {r : Reg}

theorem State.Touches.fullSize {bs : List Nat} (h : s.Touches t ((Place.reg r).regs s.opWidth) bs) :
    s.Touches t [r] bs := Place.regs_ofSize s.opSize r ▸ h

theorem State.regRm_touches {f : Binary} (hf : f.FlagsOnly) (h : outcome (s.regRm f w rm r) = .next t) :
    s.Touches t ((Place.reg r).regs w) [] := by
  obtain ⟨-, -, rfl⟩ := State.regRm_eq_ok.mp (outcome_eq_next.mp h)
  exact (hf ..).setReg.retire

theorem State.accImm_touches {f : Binary} (hf : f.FlagsOnly) {v : Word} (h : outcome (s.accImm f w v) = .next t) :
    s.Touches t ((Place.reg .eax).regs w) [] := by
  obtain ⟨-, rfl⟩ := State.accImm_eq_ok.mp (outcome_eq_next.mp h)
  exact (hf ..).setReg.retire

theorem State.movFromRM_touches {src : Width} {f : Word → Word} (h : outcome (s.movFromRM src w rm r f) = .next t) :
    s.Touches t ((Place.reg r).regs w) [] := by
  obtain ⟨-, -, rfl⟩ := State.movFromRM_eq_ok.mp (outcome_eq_next.mp h)
  exact (State.Touches.refl s).setReg.retire

theorem State.movRegImm_touches {v : Word} (h : outcome (s.movRegImm w r v) = .next t) :
    s.Touches t ((Place.reg r).regs w) [] := by
  obtain ⟨-, rfl⟩ := check_ok_eq_ok.mp (outcome_eq_next.mp h)
  exact (State.Touches.refl s).setReg.retire

theorem State.movAccMoffs_touches {off : Word} (h : outcome (s.movAccMoffs w off) = .next t) :
    s.Touches t ((Place.reg .eax).regs w) [] := by
  have ⟨_, h⟩ := check_eq_ok.mp (outcome_eq_next.mp h)
  obtain ⟨_, _, h⟩ := bind_eq_ok.mp h
  cases h
  exact (State.Touches.refl s).setReg.retire

theorem execXlat_touches (h : exec .xlat s = .next t) : s.Touches t [.eax] [] := by
  have ⟨_, h⟩ := check_eq_ok.mp (outcome_eq_next.mp h)
  obtain ⟨_, _, h⟩ := bind_eq_ok.mp h
  cases h
  exact (State.Touches.refl s).setReg.retire

theorem State.mulRM_touches {rs : List Reg} (product : ∀ p, s.Touches (s.setProduct w p) rs [])
    (h : outcome (s.mulRM w rm) = .next t) : s.Touches t rs [] := by
  have ⟨_, h⟩ := check_eq_ok.mp (outcome_eq_next.mp h)
  obtain ⟨m, _, h⟩ := bind_eq_ok.mp h
  cases h
  exact ((product _).setFlags (by rw [s.setProduct_flags]; exact s.flags.mul_keepsControl ..)).drawn.retire

theorem execXchgAxReg_touches (h : exec (.xchgAxReg r) s = .next t) : s.Touches t [.eax, r] [] := by
  obtain ⟨-, rfl⟩ := check_ok_eq_ok.mp (outcome_eq_next.mp h)
  have both := fun a b =>
    ((State.Touches.refl s).setReg (w := s.opWidth) (r := .eax) (v := a)).setReg (w := s.opWidth) (r := r) (v := b)
  simp only [State.opWidth, Place.regs_ofSize] at both
  exact (both _ _).retire

theorem State.movFromSpecial_touches {v : Word} (h : outcome (s.movFromSpecial r v) = .next t) : s.Touches t [r] [] := by
  have ⟨_, h⟩ := check_eq_ok.mp (outcome_eq_next.mp h)
  obtain ⟨-, rfl⟩ := check_ok_eq_ok.mp h
  exact (State.Touches.refl s).setReg.undefineFlags.retire

theorem execMovR32Tr_touches {tr : TReg} (h : exec (.movR32Tr tr r) s = .next t) : s.Touches t [r] [] := by
  have ⟨_, h⟩ := check_eq_ok.mp (outcome_eq_next.mp h)
  obtain ⟨-, rfl⟩ := check_ok_eq_ok.mp h
  exact (State.Touches.refl s).drawn.setReg.undefineFlags.retire

theorem State.testRM_touches {b : Word} (h : outcome (s.testRM w rm b) = .next t) : s.Touches t [] [] := by
  have ⟨_, h⟩ := check_eq_ok.mp (outcome_eq_next.mp h)
  obtain ⟨_, _, h⟩ := bind_eq_ok.mp h
  cases h
  exact (State.Touches.refl s).logicFlags.retire

theorem State.testAcc_touches {b : Word} (h : outcome (s.testAcc w b) = .next t) : s.Touches t [] [] := by
  obtain ⟨-, rfl⟩ := check_ok_eq_ok.mp (outcome_eq_next.mp h)
  exact (State.Touches.refl s).logicFlags.retire

theorem State.verify_touches {ok : Descriptor → BitVec 2 → BitVec 2 → Bool} (h : outcome (s.verify ok rm) = .next t) :
    s.Touches t [] [] := by
  have ⟨_, h⟩ := check_eq_ok.mp (outcome_eq_next.mp h)
  have ⟨_, h⟩ := check_eq_ok.mp h
  obtain ⟨v, _, h⟩ := bind_eq_ok.mp h
  obtain ⟨z, rfl⟩ : ∃ z, t = (s.setFlags { s.flags with zf := z }).retire := by
    dsimp only at h
    split at h <;> exact have ⟨_, _, h⟩ := bind_eq_ok.mp h; ⟨_, (Except.ok.inj h).symm⟩
  exact ((State.Touches.refl s).setFlags (s.flags.zf_keepsControl z)).retire

theorem State.onlyFlags_touches {f : Flags} (c : s.flags.KeepsControl f) (h : outcome (s.onlyFlags f) = .next t) :
    s.Touches t [] [] := by
  obtain ⟨-, rfl⟩ := check_ok_eq_ok.mp (outcome_eq_next.mp h)
  exact ((State.Touches.refl s).setFlags c).retire

theorem execMovTrR32_touches {tr : TReg} (h : exec (.movTrR32 tr r) s = .next t) : s.Touches t [] [] := by
  have ⟨_, h⟩ := check_eq_ok.mp (outcome_eq_next.mp h)
  obtain ⟨-, rfl⟩ := check_ok_eq_ok.mp h
  exact (State.Touches.refl s).undefineFlags.retire

theorem execNop_touches (h : exec .nop s = .next t) : s.Touches t [] [] := by
  obtain ⟨-, rfl⟩ := check_ok_eq_ok.mp (outcome_eq_next.mp h)
  exact (State.Touches.refl s).retire

/-- WAIT holds or completes (rule R446). -/
theorem execWait_touches (h : exec .wait s = .next t) : s.Touches t [] [] := by
  have ⟨_, h⟩ := check_eq_ok.mp (outcome_eq_next.mp h)
  have ⟨_, h⟩ := (guard_eq_ok (by simp [bind_eq_ok])).mp h
  split at h
  · cases h
    exact (State.Touches.refl s).hold
  · have ⟨_, h⟩ := (guard_eq_ok (by simp)).mp h
    cases h
    exact (State.Touches.refl s).retire

end

end Sys2Proof.Machine
end

section
/-! The frames of the operand forms: the statement about them settled from the rules of what each shared meaning touches. -/

namespace Sys2Proof.Machine

/-- When each instruction of a table touches what the table says, that is its frame. -/
theorem frames_of_touches {α : Type} {s t : State} {table : List (Instr × α)} {regs : Instr × α → List Reg}
    {bytes : Instr × α → List Nat} (h : ∀ q ∈ table, exec q.1 s = .next t → s.Touches t (regs q) (bytes q)) :
    ∀ q ∈ table, exec q.1 s = .next t → s.Frame t (regs q) (bytes q) :=
  fun q hq e => (h q hq e).toFrame

open State in
/-- Settles O50: the tables are walked in their order, each entry by the rule of the meaning that its form shares. -/
theorem frameOfOperandForms : Obligations.FrameOfOperandForms := by
  intro s t rm r sr c d tr n i8 iv
  refine ⟨frames_of_touches ?_, frames_of_touches ?_, frames_of_touches ?_, ?_, frames_of_touches ?_⟩ <;>
    simp only [List.forall_mem_cons, List.not_mem_nil, false_imp_iff, implies_true, and_true]
  · exact ⟨rmReg_touches orOp_flagsOnly, rmImm_touches orOp_flagsOnly, rmReg_touches orOp_flagsOnly,
      rmImm_touches orOp_flagsOnly, rmImm_touches orOp_flagsOnly,
      rmReg_touches sbbOp_flagsOnly, rmImm_touches sbbOp_flagsOnly, rmReg_touches sbbOp_flagsOnly,
      rmImm_touches sbbOp_flagsOnly, rmImm_touches sbbOp_flagsOnly,
      rmReg_touches subOp_flagsOnly, rmImm_touches subOp_flagsOnly, rmReg_touches subOp_flagsOnly,
      rmImm_touches subOp_flagsOnly, rmImm_touches subOp_flagsOnly,
      rmReg_touches xorOp_flagsOnly, rmImm_touches xorOp_flagsOnly, rmReg_touches xorOp_flagsOnly,
      rmImm_touches xorOp_flagsOnly, rmImm_touches xorOp_flagsOnly,
      rmUnary_touches notOp_flagsOnly, rmUnary_touches notOp_flagsOnly,
      rmUnary_touches negOp_flagsOnly, rmUnary_touches negOp_flagsOnly,
      shiftRM_touches, shiftRM_touches, shiftRM_touches, shiftRM_touches, shiftRM_touches, shiftRM_touches,
      shiftRM_touches, shiftRM_touches, shiftRM_touches, shiftRM_touches, shiftRM_touches, shiftRM_touches,
      shiftRM_touches, shiftRM_touches,
      doubleShift_touches, doubleShift_touches, doubleShift_touches, doubleShift_touches,
      movToRM_touches, movToRM_touches, movToRM_touches, movToRM_touches,
      execMovRm16Sreg_touches, execSmsw_touches, storeSel_touches, storeSel_touches,
      setCond_touches, setCond_touches, setCond_touches, setCond_touches, setCond_touches, setCond_touches,
      setCond_touches, setCond_touches, setCond_touches, setCond_touches, setCond_touches, setCond_touches,
      setCond_touches, setCond_touches, setCond_touches, setCond_touches⟩
  · exact ⟨xchgRM_touches, xchgRM_touches⟩
  · exact ⟨movMoffsAcc_touches, movMoffsAcc_touches⟩
  · exact ⟨fun h => (storeTable_touches h).toFrame, fun h => (storeTable_touches h).toFrame⟩
  · exact ⟨regRm_touches orOp_flagsOnly, fun h => (regRm_touches orOp_flagsOnly h).fullSize,
      accImm_touches orOp_flagsOnly, fun h => (accImm_touches orOp_flagsOnly h).fullSize,
      regRm_touches sbbOp_flagsOnly, fun h => (regRm_touches sbbOp_flagsOnly h).fullSize,
      accImm_touches sbbOp_flagsOnly, fun h => (accImm_touches sbbOp_flagsOnly h).fullSize,
      regRm_touches subOp_flagsOnly, fun h => (regRm_touches subOp_flagsOnly h).fullSize,
      accImm_touches subOp_flagsOnly, fun h => (accImm_touches subOp_flagsOnly h).fullSize,
      regRm_touches xorOp_flagsOnly, fun h => (regRm_touches xorOp_flagsOnly h).fullSize,
      accImm_touches xorOp_flagsOnly, fun h => (accImm_touches xorOp_flagsOnly h).fullSize,
      movFromRM_touches, movRegImm_touches, fun h => (movFromRM_touches h).fullSize,
      fun h => (movRegImm_touches h).fullSize, fun h => (movFromRM_touches h).fullSize,
      fun h => (movFromRM_touches h).fullSize, fun h => (movFromRM_touches h).fullSize,
      fun h => (movFromRM_touches h).fullSize, movAccMoffs_touches, fun h => (movAccMoffs_touches h).fullSize,
      execXlat_touches, mulRM_touches s.setProduct_touches_b8, mulRM_touches (s.setProduct_touches_ofSize _),
      execXchgAxReg_touches, movFromSpecial_touches, movFromSpecial_touches, execMovR32Tr_touches,
      execMovTrR32_touches, testRM_touches, testRM_touches, testRM_touches, testRM_touches, testAcc_touches,
      testAcc_touches, verify_touches, verify_touches, execNop_touches,
      onlyFlags_touches (s.flags.sahf_keepsControl _), onlyFlags_touches (s.flags.cf_keepsControl _),
      onlyFlags_touches (s.flags.cf_keepsControl _), onlyFlags_touches (s.flags.cf_keepsControl _), execWait_touches⟩

end Sys2Proof.Machine
end

section
/-! The invariant `State.Coherent` (rules R38, R74, R83, R85, R406): which operations cannot disturb it, what the loads of
segment registers and MOV CR0 make of it, and that every step keeps it. -/

namespace Sys2Proof.Machine

/-! ### What coherence depends on -/

/-- The state differs in nothing that `State.Coherent` speaks of, and memory stays in its canonical form. -/
structure State.Steady (s t : State) : Prop where
  mode : t.mode = s.mode
  cpl : t.cpl = s.cpl
  segs : t.segs = s.segs
  wf : s.mem.wf → t.mem.wf

theorem State.Steady.coherent {s t : State} (h : s.Steady t) (c : s.Coherent) : t.Coherent := by
  obtain ⟨mode, cpl, segs, wf⟩ := h
  have seg : t.seg = s.seg := by funext r; simp only [State.seg, segs]
  exact {
    mem := wf c.mem
    realLevel := by rw [mode, cpl]; exact c.realLevel
    realSegs := by rw [mode, seg]; exact c.realSegs
    stack := by rw [mode, seg, cpl]; exact c.stack }

theorem State.Steady.trans {s t u : State} (a : s.Steady t) (b : t.Steady u) : s.Steady u :=
  ⟨b.mode.trans a.mode, b.cpl.trans a.cpl, b.segs.trans a.segs, b.wf ∘ a.wf⟩

/-- A frame leaves CR0, VM, CPL and the segment registers as they were. -/
theorem State.Touches.steady {s t : State} {rs : List Reg} {bs : List Nat} (h : s.Touches t rs bs) : s.Steady t :=
  ⟨State.mode_congr h.system.cr0 h.control.vm, h.system.cpl, h.segs, h.wf⟩

theorem State.Touches.coherent {s t : State} {rs : List Reg} {bs : List Nat} (h : s.Touches t rs bs) (c : s.Coherent) :
    t.Coherent := h.steady.coherent c

/-- Of the flags the mode depends on VM alone (rule R8). -/
theorem State.setFlags_steady (s : State) {f : Flags} (h : f.vm = s.flags.vm) : s.Steady (s.setFlags f) :=
  ⟨State.mode_congr rfl h, rfl, rfl, id⟩

theorem State.emit_steady (s : State) (p : Half) (w : Width) (v : Word) : s.Steady (s.emit p w v) :=
  ⟨rfl, rfl, rfl, id⟩

theorem State.setDreg_steady (s : State) (d : DReg) (v : Word) : s.Steady (s.setDreg d v) :=
  ⟨State.mode_congr (by simp) (by simp), by simp, by simp, by simp⟩

/-! ### Instructions without a next state -/

theorem State.noMeaning_ne_next {s t : State} {m : String} : outcome (s.noMeaning m) ≠ .next t := by
  simp [outcome_eq_next, State.noMeaning, check_eq_ok]

theorem State.noMeaningProtected_ne_next {s t : State} {m : String} : outcome (s.noMeaningProtected m) ≠ .next t := by
  simp [outcome_eq_next, State.noMeaningProtected, check_eq_ok]

/-! ### The stack -/

section
variable {s t u : State} {rs : List Reg} {bs : List Nat}

/-- The stack pointer is ESP, in part or whole (rule R37). -/
theorem State.stackWidth_regs (s : State) : (Place.reg .esp).regs s.stackWidth = [.esp] := by
  rw [s.stackWidth_eq]
  split <;> rfl

theorem State.Touches.setSp (h : s.Touches u rs bs) {v : Word} : s.Touches (u.setSp v) (rs ++ [.esp]) bs :=
  u.stackWidth_regs ▸ h.setReg (w := u.stackWidth) (r := .esp)

theorem State.Touches.popped (h : s.Touches u rs bs) {k : Nat} : s.Touches (u.popped k) (rs ++ [.esp]) bs := h.setSp

theorem State.pushed_touches (s : State) (n : Nat) (v : Word) :
    s.Touches (s.pushed n v) [.esp] (s.addrs .ss (s.stackDown n) n) := (State.Touches.refl s).store.setSp

theorem State.push_touches {n : Nat} {v : Word} (h : s.push n v = .ok t) :
    s.Touches t [.esp] (s.addrs .ss (s.stackDown n) n) := by
  obtain ⟨-, rfl⟩ := State.push_eq_ok.mp h
  exact s.pushed_touches n v

theorem State.pushValue_touches {v : Word} (h : outcome (s.pushValue v) = .next t) :
    s.Touches t [.esp] (s.addrs .ss (s.stackDown s.opWidth.bytes) s.opWidth.bytes) := by
  have ⟨_, h⟩ := check_eq_ok.mp (outcome_eq_next.mp h)
  obtain ⟨u, hu, h⟩ := bind_eq_ok.mp h
  cases h
  exact (State.push_touches hu).retire

theorem execPushRm_touches {rm : RM} (h : exec (.pushRm rm) s = .next t) :
    s.Touches t [.esp] (s.addrs .ss (s.stackDown s.opWidth.bytes) s.opWidth.bytes) := by
  have ⟨_, h⟩ := check_eq_ok.mp (outcome_eq_next.mp h)
  have ⟨_, h⟩ := (guard_eq_ok (by simp [bind_eq_ok])).mp h
  obtain ⟨_, _, h⟩ := bind_eq_ok.mp h
  exact State.pushValue_touches (outcome_eq_next.mpr h)

theorem State.pushSeg_steady {r : SegReg} (h : outcome (s.pushSeg r) = .next t) : s.Steady t := by
  have ⟨_, h⟩ := check_eq_ok.mp (outcome_eq_next.mp h)
  split at h <;> obtain ⟨u, hu, h⟩ := bind_eq_ok.mp h <;> cases h
  · exact (State.push_touches hu).retire.steady
  · exact (State.Touches.refl s).drawn.steady.trans (State.push_touches hu).retire.steady

theorem execPushf_steady (h : exec .pushf s = .next t) : s.Steady t := by
  have ⟨_, h⟩ := check_eq_ok.mp (outcome_eq_next.mp h)
  have ⟨_, h⟩ := check_eq_ok.mp h
  obtain ⟨u, hu, h⟩ := bind_eq_ok.mp h
  cases h
  exact (State.Touches.refl s).drawn.steady.trans (State.push_touches hu).retire.steady

theorem State.pushedAll_steady (s : State) (n : Nat) (vs : List Word) : s.Steady (s.pushedAll n vs) := by
  induction vs generalizing s with
  | nil => exact (State.Touches.refl s).steady
  | cons v vs ih => exact (s.pushed_touches n v).steady.trans (ih _)

theorem execPusha_steady (h : exec .pusha s = .next t) : s.Steady t := by
  have ⟨_, h⟩ := check_eq_ok.mp (outcome_eq_next.mp h)
  obtain ⟨-, rfl⟩ := check_ok_eq_ok.mp h
  exact (s.pushedAll_steady _ _).trans (State.Touches.refl _).retire.steady

theorem State.popInto_touches {r : Reg} (h : s.popInto r = .ok t) : s.Touches t [.esp, r] [] := by
  have ⟨_, h⟩ := (guard_eq_ok (by simp [bind_eq_ok])).mp h
  obtain ⟨-, rfl⟩ := check_ok_eq_ok.mp h
  have loaded := fun n v => ((State.Touches.refl s).popped (k := n)).setReg (w := s.opWidth) (r := r) (v := v)
  simp only [State.opWidth, Place.regs_ofSize] at loaded
  exact (loaded _ _).retire

theorem State.popMem_touches {m : Mem} (h : s.popMem m = .ok t) :
    s.Touches t [.esp] (s.placeAddrs s.opWidth (s.place (.mem m))) := by
  have ⟨_, h⟩ := (guard_eq_ok (by simp [bind_eq_ok])).mp h
  have ⟨_, h⟩ := check_eq_ok.mp h
  obtain ⟨-, rfl⟩ := check_ok_eq_ok.mp h
  exact (State.Touches.refl s).writeAt.popped.retire

theorem execPopReg_touches {r : Reg} (h : exec (.popReg r) s = .next t) : s.Touches t [.esp, r] [] :=
  have ⟨_, h⟩ := check_eq_ok.mp (outcome_eq_next.mp h)
  State.popInto_touches h

theorem execPopRm_steady {rm : RM} (h : exec (.popRm rm) s = .next t) : s.Steady t := by
  have ⟨_, h⟩ := check_eq_ok.mp (outcome_eq_next.mp h)
  cases rm with
  | reg r => exact (State.popInto_touches h).steady
  | mem m => exact (State.popMem_touches h).steady

theorem State.loadItems_steady (t s : State) (n k : Nat) (rs : List Reg) : t.Steady (t.loadItems s n k rs) := by
  induction rs generalizing t k with
  | nil => exact (State.Touches.refl t).steady
  | cons r rs ih =>
    refine State.Steady.trans ?_ (ih _ _)
    split
    · exact (State.Touches.refl t).steady
    · exact (State.Touches.refl t).setReg.steady

theorem execPopa_steady (h : exec .popa s = .next t) : s.Steady t := by
  have ⟨_, h⟩ := check_eq_ok.mp (outcome_eq_next.mp h)
  obtain ⟨-, rfl⟩ := check_ok_eq_ok.mp h
  exact (s.loadItems_steady s _ _ _).trans (State.Touches.refl _).popped.retire.steady

/-- POPF leaves VM as it was (rule R340). -/
theorem execPopf_steady (h : exec .popf s = .next t) : s.Steady t := by
  have ⟨_, h⟩ := check_eq_ok.mp (outcome_eq_next.mp h)
  have ⟨_, h⟩ := check_eq_ok.mp h
  obtain ⟨-, rfl⟩ := check_ok_eq_ok.mp h
  exact (s.setFlags_steady (by rfl)).trans (State.Touches.refl _).popped.retire.steady

/-! ### Transfers within the code segment -/

theorem State.Touches.countDown (h : s.Touches u rs bs) : s.Touches u.countDown (rs ++ [.ecx]) bs :=
  Place.regs_ofSize u.addrSize .ecx ▸ h.setReg (w := u.addrWidth) (r := .ecx)

theorem State.retNear_touches {imm : Nat} (h : outcome (s.retNear imm) = .next t) : s.Touches t [.esp] [] := by
  have ⟨_, h⟩ := check_eq_ok.mp (outcome_eq_next.mp h)
  have ⟨_, h⟩ := check_eq_ok.mp h
  obtain ⟨-, rfl⟩ := State.jump_eq_ok.mp h
  exact (State.Touches.refl s).popped.jumpTo

theorem State.branch_touches {take : Bool} {rel : Word} (h : outcome (s.branch take rel) = .next t) :
    s.Touches t [] [] := by
  obtain ⟨-, -, ⟨-, -, rfl⟩ | ⟨-, rfl⟩⟩ := State.branch_eq_ok.mp (outcome_eq_next.mp h)
  · exact (State.Touches.refl s).jumpTo
  · exact (State.Touches.refl s).retire

theorem State.loopBranch_steady {also : Bool} {rel : BitVec 8} (h : outcome (s.loopBranch also rel) = .next t) :
    s.Steady t :=
  (State.Touches.refl s).countDown.steady.trans (State.branch_touches h).steady

/-! ### Output and string instructions -/

theorem State.out_steady {port : Half} {w : Width} (h : outcome (s.out port w) = .next t) : s.Steady t := by
  have ⟨_, h⟩ := check_eq_ok.mp (outcome_eq_next.mp h)
  obtain ⟨u, hu, h⟩ := bind_eq_ok.mp h
  obtain ⟨-, -, rfl⟩ := State.ioWrite_eq_ok.mp hu
  cases h
  exact (s.emit_steady ..).trans (State.Touches.refl _).retire.steady

theorem State.Touches.advance (h : s.Touches u rs bs) {r : Reg} {w : Width} :
    s.Touches (u.advance r w) (rs ++ [r]) bs :=
  Place.regs_ofSize u.addrSize r ▸ h.setReg (w := u.addrWidth) (r := r)

theorem outsOnce_steady {w : Width} (h : outsOnce w s = .ok t) : s.Steady t := by
  have ⟨_, h⟩ := check_eq_ok.mp h
  have ⟨_, h⟩ := check_eq_ok.mp h
  obtain ⟨u, hu, h⟩ := bind_eq_ok.mp h
  obtain ⟨-, -, rfl⟩ := State.ioWrite_eq_ok.mp hu
  cases h
  exact (s.emit_steady ..).trans (State.Touches.refl _).advance.steady

theorem movsOnce_steady {w : Width} (h : movsOnce w s = .ok t) : s.Steady t := by
  obtain ⟨-, -, rfl⟩ := movsOnce_eq_ok.mp h
  exact (State.Touches.refl s).writeAt.advance.advance.steady

theorem stosOnce_steady {w : Width} (h : stosOnce w s = .ok t) : s.Steady t := by
  obtain ⟨-, rfl⟩ := stosOnce_eq_ok.mp h
  exact (State.Touches.refl s).writeAt.advance.steady

theorem scasOnce_steady {w : Width} (h : scasOnce w s = .ok t) : s.Steady t := by
  obtain ⟨-, rfl⟩ := scasOnce_eq_ok.mp h
  exact ((State.Touches.refl s).setFlags (s.flags.ofDifference_keepsControl ..)).advance.steady

/-- One step of a string instruction is as steady as one iteration (rule R240). -/
theorem State.repeated_steady {stops : RepPrefix → State → Bool} {once : State → M State}
    (body : ∀ {u}, once s = .ok u → s.Steady u) (h : s.repeated stops once = .ok t) : s.Steady t := by
  obtain ⟨-, u, hu, rfl⟩ | ⟨p, -, -, rfl⟩ | ⟨p, u, -, -, hu, rfl⟩ := State.repeated_eq_ok.mp h
  · exact (body hu).trans (State.Touches.refl u).retire.steady
  · exact (State.Touches.refl s).retire.steady
  · refine (body hu).trans ?_
    split
    · exact (State.Touches.refl u).countDown.retire.steady
    · exact (State.Touches.refl u).countDown.again.steady

/-- A string instruction takes no LOCK, and its repeat byte decides how often it runs (rule R240). -/
theorem State.stringOp_steady {stops : RepPrefix → State → Bool} {once : State → M State}
    (body : ∀ {u}, once s = .ok u → s.Steady u) (h : outcome (s.stringOp stops once) = .next t) : s.Steady t :=
  have ⟨_, h⟩ := check_eq_ok.mp (outcome_eq_next.mp h)
  State.repeated_steady body h

/-! ### Flags, bytes before an instruction, and debug registers -/

theorem State.onlyFlags_steady {f : Flags} (v : f.vm = s.flags.vm) (h : outcome (s.onlyFlags f) = .next t) :
    s.Steady t := by
  obtain ⟨-, rfl⟩ := check_ok_eq_ok.mp (outcome_eq_next.mp h)
  exact (s.setFlags_steady v).trans (State.Touches.refl _).retire.steady

theorem execCli_steady (h : exec .cli s = .next t) : s.Steady t := by
  have ⟨_, h⟩ := check_eq_ok.mp (outcome_eq_next.mp h)
  obtain ⟨-, rfl⟩ := check_ok_eq_ok.mp h
  exact (s.setFlags_steady (by rfl)).trans (State.Touches.refl _).retire.steady

theorem execSti_steady (h : exec .sti s = .next t) : s.Steady t := by
  have ⟨_, h⟩ := check_eq_ok.mp (outcome_eq_next.mp h)
  obtain ⟨-, rfl⟩ := check_ok_eq_ok.mp h
  exact (s.setFlags_steady (by rfl)).trans (State.Touches.refl _).retireWith.steady

theorem State.latchSeg_touches {r : SegReg} (h : outcome (s.latchSeg r) = .next t) : s.Touches t [] [] := by
  have h := outcome_eq_next.mp h
  unfold State.latchSeg at h
  split at h <;> cases h
  exact (State.Touches.refl s).latch

/-- A byte that records itself, and is refused when its group was read before (rule R114). -/
theorem State.latchUnless_touches {read : Bool} {c : Ctx}
    (h : outcome (if read then refuse .duplicatePrefix else .ok (s.latch c)) = .next t) : s.Touches t [] [] := by
  have ⟨_, h⟩ := (guard_eq_ok (by simp)).mp (outcome_eq_next.mp h)
  cases h
  exact (State.Touches.refl s).latch

theorem execMovDrR32_steady {d : DReg} {r : Reg} (h : exec (.movDrR32 d r) s = .next t) : s.Steady t := by
  have ⟨_, h⟩ := check_eq_ok.mp (outcome_eq_next.mp h)
  have ⟨_, h⟩ := check_eq_ok.mp h
  obtain ⟨-, rfl⟩ := check_ok_eq_ok.mp h
  exact (s.setDreg_steady ..).trans (State.Touches.refl _).undefineFlags.retire.steady

end

/-! ### MOV to control registers (rules R36, R38, R211) -/

section
variable {s t : State}

/-- A write of CR0 that does not leave protected mode: the mode stays, or real-address mode, in which SS is writable data
of level 0, is left at level 0. -/
theorem State.setCreg_cr0_coherent (c : s.Coherent) {v : Word} (stays : s.pe = true → v.getLsbD 0 = true) :
    (s.setCreg .cr0 v).Coherent := by
  cases pe : s.pe with
  | true =>
    have pe' : (s.setCreg .cr0 v).pe = true := stays pe
    have mode : (s.setCreg .cr0 v).mode = s.mode := by simp only [State.mode, pe, pe']; rfl
    exact State.Steady.coherent ⟨mode, by simp [State.setCreg, pe], rfl, id⟩ c
  | false =>
    have real : s.mode = .real := by simp [State.mode, pe]
    have level : (s.setCreg .cr0 v).cpl = 0 := by simp [State.setCreg, pe, c.realLevel real]
    have segs := c.realSegs (by simp [real])
    exact {
      mem := c.mem
      realLevel := fun _ => level
      realSegs := fun _ => segs
      stack := fun _ => by
        rw [level]
        have rights : ((s.setCreg .cr0 v).seg .ss).rights = realRights := (segs .ss (by decide)).2
        rw [rights]
        exact ⟨rfl, rfl⟩ }

theorem State.checkCreg_cr0_eq_ok {v : Word} (h : s.checkCreg .cr0 v = .ok ()) :
    s.pe = true → v.getLsbD 0 = true := by
  simp only [State.checkCreg] at h
  have ⟨_, h⟩ := (guard_eq_ok (by simp)).mp h
  have ⟨stays, _⟩ := (guard_eq_ok (by simp)).mp h
  simpa using stays

theorem execMovCrR32_coherent {k : CReg} {r : Reg} (c : s.Coherent) (h : exec (.movCrR32 k r) s = .next t) :
    t.Coherent := by
  have ⟨_, h⟩ := check_eq_ok.mp (outcome_eq_next.mp h)
  have ⟨_, h⟩ := check_eq_ok.mp h
  obtain ⟨value, rfl⟩ := check_ok_eq_ok.mp h
  refine (State.Touches.refl _).undefineFlags.retire.coherent ?_
  cases k with
  | cr0 => exact State.setCreg_cr0_coherent c (State.checkCreg_cr0_eq_ok value)
  | cr2 | cr3 => exact State.Steady.coherent (s := s) ⟨rfl, rfl, rfl, id⟩ c

/-! ### Loads of segment registers (rules R74, R83 to R85) -/

/-- In protected mode coherence is about memory and SS. -/
theorem State.coherent_of_prot (m : s.mode = .prot) (wf : s.mem.wf) (dpl : (s.seg .ss).rights.dpl = s.cpl)
    (writable : (s.seg .ss).rights.writable = true) : s.Coherent where
  mem := wf
  realLevel h := by rw [m] at h; cases h
  realSegs h := absurd m h
  stack _ := ⟨dpl, writable⟩

/-- A segment register replaced by what coherence asks of it in the mode. -/
theorem State.setSeg_coherent (c : s.Coherent) {r : SegReg} {x : Segment}
    (real : s.mode ≠ .prot → r ≠ .cs → x.realFormed ∧ x.rights = realRights)
    (stack : s.mode = .prot → r = .ss → x.rights.dpl = s.cpl ∧ x.rights.writable = true) : (s.setSeg r x).Coherent where
  mem := c.mem
  realLevel := c.realLevel
  realSegs m q hq := by
    by_cases h : q = r
    · subst h; rw [s.seg_setSeg_same]; exact real m hq
    · rw [s.seg_setSeg_other r q x h]; exact c.realSegs m q hq
  stack m := by
    by_cases h : .ss = r
    · subst h; rw [s.seg_setSeg_same]; exact stack m rfl
    · rw [s.seg_setSeg_other r .ss x h]; exact c.stack m

/-- Coherence says nothing of CS. -/
theorem State.setSeg_cs_coherent (c : s.Coherent) {x : Segment} : (s.setSeg .cs x).Coherent :=
  State.setSeg_coherent c (fun _ h => absurd rfl h) fun _ h => by cases h

/-- In protected mode coherence says nothing of the segment registers but SS. -/
theorem State.setSeg_prot_coherent (c : s.Coherent) (m : s.mode = .prot) {r : SegReg} (hr : r ≠ .ss) {x : Segment} :
    (s.setSeg r x).Coherent :=
  State.setSeg_coherent c (fun h => absurd m h) fun _ h => absurd h hr

theorem State.loadSeg_coherent (c : s.Coherent) {r : SegReg} {sel : Half} (h : s.loadSeg r sel = .ok t) :
    t.Coherent := by
  unfold State.loadSeg at h
  split at h
  case h_1 m =>
    obtain ⟨d, -, -, writable, dpl, -, rfl⟩ := State.loadSS_eq_ok h
    exact State.setSeg_coherent c (fun n => absurd m n) fun _ _ => ⟨dpl, writable⟩
  case h_2 m hr =>
    obtain ⟨-, rfl⟩ | ⟨d, -, -, -, -, rfl⟩ := State.loadDataSeg_eq_ok h
    · exact State.setSeg_prot_coherent c m hr
    · exact State.setSeg_prot_coherent c m hr
  case h_3 m _ =>
    cases h
    exact State.setSeg_coherent c (fun _ _ => ⟨⟨rfl, rfl⟩, rfl⟩) fun n _ => absurd n m

theorem execMovSregRm16_coherent {rm : RM} {r : SegReg} (c : s.Coherent) (h : exec (.movSregRm16 rm r) s = .next t) :
    t.Coherent := by
  have ⟨_, h⟩ := check_eq_ok.mp (outcome_eq_next.mp h)
  have ⟨_, h⟩ := (guard_eq_ok (by simp [bind_eq_ok])).mp h
  obtain ⟨sel, _, h⟩ := bind_eq_ok.mp h
  obtain ⟨u, hu, h⟩ := bind_eq_ok.mp h
  cases h
  exact (State.Touches.refl u).retireWith.coherent (State.loadSeg_coherent c hu)

theorem State.popSeg_coherent {r : SegReg} (c : s.Coherent) (h : outcome (s.popSeg r) = .next t) : t.Coherent := by
  have ⟨_, h⟩ := check_eq_ok.mp (outcome_eq_next.mp h)
  have ⟨_, h⟩ := check_eq_ok.mp h
  obtain ⟨u, hu, h⟩ := bind_eq_ok.mp h
  cases h
  exact (State.Touches.refl u).setReg.retireWith.coherent (State.loadSeg_coherent c hu)

/-! ### Far returns (rules R402, R405 to R407) -/

theorem State.retFarReal_coherent {imm : Nat} (c : s.Coherent) (h : s.retFarReal imm = .ok t) : t.Coherent := by
  have ⟨_, h⟩ := check_eq_ok.mp h
  have ⟨_, h⟩ := (guard_eq_ok (by simp)).mp h
  cases h
  exact (State.Touches.refl _).popped.jumpTo.coherent (State.setSeg_cs_coherent c)

theorem State.retFarSame_coherent {imm : Nat} (c : s.Coherent) (h : s.retFarSame imm = .ok t) : t.Coherent := by
  obtain ⟨d, _, h⟩ := bind_eq_ok.mp h
  have ⟨_, h⟩ := check_eq_ok.mp h
  have ⟨_, h⟩ := (guard_eq_ok (by simp [bind_eq_ok])).mp h
  cases h
  exact (State.Touches.refl _).popped.jumpTo.coherent (State.setSeg_cs_coherent c)

/-- The new stack segment is writable data of the level returned to (rule R406). -/
theorem State.returnStack_eq_ok {sel : Half} {level : BitVec 2} {e : Descriptor}
    (h : s.returnStack sel level = .ok e) : e.rights.writable = true ∧ e.rights.dpl = level := by
  unfold State.returnStack at h
  have ⟨_, h⟩ := (guard_eq_ok (by simp [bind_eq_ok])).mp h
  obtain ⟨e', _, h⟩ := bind_eq_ok.mp h
  have ⟨_, h⟩ := (guard_eq_ok (by simp [bind_eq_ok])).mp h
  have ⟨writable, h⟩ := (guard_eq_ok (by simp [bind_eq_ok])).mp h
  have ⟨dpl, h⟩ := (guard_eq_ok (by simp [bind_eq_ok])).mp h
  have ⟨_, h⟩ := (guard_eq_ok (by simp [bind_eq_ok])).mp h
  cases h
  exact ⟨by simpa using writable, by simpa using dpl⟩

/-- The validation of a data segment register in protected mode (rule R407). -/
theorem State.dropSeg_coherent {r : SegReg} (hr : r ≠ .ss) (c : s.Coherent ∧ s.mode = .prot)
    (h : s.dropSeg r = .ok t) : t.Coherent ∧ t.mode = .prot := by
  obtain rfl | rfl := State.dropSeg_eq_ok h
  · exact c
  · exact ⟨State.setSeg_prot_coherent c.1 c.2 hr, c.2⟩

theorem State.dropSegs_coherent (c : s.Coherent ∧ s.mode = .prot) (h : s.dropSegs = .ok t) :
    t.Coherent ∧ t.mode = .prot := by
  obtain ⟨s1, h1, h⟩ := bind_eq_ok.mp h
  obtain ⟨s2, h2, h⟩ := bind_eq_ok.mp h
  obtain ⟨s3, h3, h⟩ := bind_eq_ok.mp h
  have c1 := State.dropSeg_coherent (by decide) c h1
  have c2 := State.dropSeg_coherent (by decide) c1 h2
  have c3 := State.dropSeg_coherent (by decide) c2 h3
  exact State.dropSeg_coherent (by decide) c3 h

theorem State.retFarOuter_coherent {imm : Nat} (c : s.Coherent) (m : s.mode = .prot) (h : s.retFarOuter imm = .ok t) :
    t.Coherent := by
  have ⟨_, h⟩ := (guard_eq_ok (by simp [bind_eq_ok])).mp h
  obtain ⟨d, _, h⟩ := bind_eq_ok.mp h
  have ⟨_, h⟩ := check_eq_ok.mp h
  have ⟨_, h⟩ := check_eq_ok.mp h
  obtain ⟨e, he, h⟩ := bind_eq_ok.mp h
  have ⟨_, h⟩ := check_eq_ok.mp h
  have ⟨_, h⟩ := (guard_eq_ok (by simp [bind_eq_ok])).mp h
  obtain ⟨u, hu, h⟩ := bind_eq_ok.mp h
  cases h
  obtain ⟨writable, dpl⟩ := State.returnStack_eq_ok he
  refine (State.Touches.refl u).jumpTo.coherent (State.dropSegs_coherent ⟨?_, ?_⟩ hu).1
  · refine (State.Touches.refl _).setReg.coherent (State.coherent_of_prot m c.mem ?_ ?_)
    · exact dpl
    · exact writable
  · rw [State.mode_setReg]
    exact m

theorem State.retFar_coherent {imm : Nat} (c : s.Coherent) (h : outcome (s.retFar imm) = .next t) : t.Coherent := by
  have ⟨_, h⟩ := check_eq_ok.mp (outcome_eq_next.mp h)
  split at h
  case h_1 m =>
    have ⟨_, h⟩ := check_eq_ok.mp h
    have ⟨_, h⟩ := (guard_eq_ok (by simp)).mp h
    split at h
    · exact State.retFarSame_coherent c h
    · exact State.retFarOuter_coherent c m h
  case h_2 => exact State.retFarReal_coherent c h

end

end Sys2Proof.Machine
end

section
/-! One step of the machine (rule R620): a property that every instruction keeps holds after each step, and coherence is
such a property. -/

namespace Sys2Proof.Machine

/-! ### From instructions to steps -/

section
variable {P : State → Prop} (length : ∀ {s : State} (n : Nat), P s → P (s.withLength n))
  (keeps : ∀ {i : Instr} {s t : State}, P s → exec i s = .next t → P t)
include length keeps

theorem runDecoded_keeps {bs : List Byte} {stop : Stop} {s t : State} (h : P s)
    (run : runDecoded exec bs stop s = .next t) : P t := by
  unfold runDecoded at run
  split at run
  · exact keeps (length _ h) run
  · cases outcome_eq_next.mp run
  · cases run

theorem runBytes_keeps {bs : List Byte} {stop : Stop} {s t : State} (h : P s)
    (run : runBytes exec bs stop s = .next t) : P t := by
  induction bs generalizing s with
  | nil => cases outcome_eq_next.mp run
  | cons b bs ih =>
    unfold runBytes at run
    split at run
    · exact runDecoded_keeps length keeps h run
    · split at run
      · exact ih (keeps h ‹_›) run
      · exact keeps h run

/-- What every instruction keeps, the bytes before it among them, each step keeps (rule R112). -/
theorem step_keeps {s t : State} (h : P s.fresh) (run : step s = .next t) : P t := by
  unfold step runInstruction at run
  split at run
  · cases run
  · exact runBytes_keeps length keeps h run

end

/-! ### Coherence -/

open State in
/-- Every instruction that answers a next state keeps coherence. -/
theorem exec_coherent {i : Instr} {s t : State} (c : s.Coherent) (h : exec i s = .next t) : t.Coherent := by
  cases i with
  | addRm8R8 | addRmvRv | addR8Rm8 | addRvRmv | addAlImm8 | addAxImmv | addRm8Imm8 | addRmvImmv | addRmvImm8
  | adcRm8R8 | adcRmvRv | adcR8Rm8 | adcRvRmv | adcAlImm8 | adcAxImmv | adcRm8Imm8 | adcRmvImmv | adcRmvImm8
  | andRm8R8 | andRmvRv | andR8Rm8 | andRvRmv | andAlImm8 | andAxImmv | andRm8Imm8 | andRmvImmv | andRmvImm8
  | cmpRm8R8 | cmpRmvRv | cmpR8Rm8 | cmpRvRmv | cmpAlImm8 | cmpAxImmv | cmpRm8Imm8 | cmpRmvImmv | cmpRmvImm8 | incReg
  | decReg | bound | imulRvRmvImmv | imulRvRmvImm8 | lea | callPtr | les | lds | enter | intImm8 | esc | inAlImm8
  | inAxImm8 | callRel | jmpPtr | imulRm8 | divRm8 | idivRm8 | imulRmv | divRmv | idivRmv | incRm8 | decRm8 | incRmv
  | decRmv | callRmv | callMem | jmpRmv | jmpMem | lgdt | lidt | lmsw | btRmvRv | btsRmvRv | imulRvRmv | lss
  | btrRmvRv | lfs | lgs | btRmvImm8 | btsRmvImm8 | btrRmvImm8 | btcRmvImm8 | btcRmvRv | bsf | bsr | daa | das | aaa
  | aas | aam | aad | ins8 | insv | cbw | cwd | lahf | cmps8 | cmpsv | lods8 | lodsv | leave | int3 | into | iret
  | inAlDx | inAxDx | hlt | clts =>
    exact absurd h noMeaning_ne_next
  | arpl | lldt | ltr | lar | lsl => exact absurd h noMeaningProtected_ne_next
  | orRm8R8 | orRmvRv => exact (rmReg_touches orOp_flagsOnly h).coherent c
  | sbbRm8R8 | sbbRmvRv => exact (rmReg_touches sbbOp_flagsOnly h).coherent c
  | subRm8R8 | subRmvRv => exact (rmReg_touches subOp_flagsOnly h).coherent c
  | xorRm8R8 | xorRmvRv => exact (rmReg_touches xorOp_flagsOnly h).coherent c
  | orRm8Imm8 | orRmvImmv | orRmvImm8 => exact (rmImm_touches orOp_flagsOnly h).coherent c
  | sbbRm8Imm8 | sbbRmvImmv | sbbRmvImm8 => exact (rmImm_touches sbbOp_flagsOnly h).coherent c
  | subRm8Imm8 | subRmvImmv | subRmvImm8 => exact (rmImm_touches subOp_flagsOnly h).coherent c
  | xorRm8Imm8 | xorRmvImmv | xorRmvImm8 => exact (rmImm_touches xorOp_flagsOnly h).coherent c
  | orR8Rm8 | orRvRmv => exact (regRm_touches orOp_flagsOnly h).coherent c
  | sbbR8Rm8 | sbbRvRmv => exact (regRm_touches sbbOp_flagsOnly h).coherent c
  | subR8Rm8 | subRvRmv => exact (regRm_touches subOp_flagsOnly h).coherent c
  | xorR8Rm8 | xorRvRmv => exact (regRm_touches xorOp_flagsOnly h).coherent c
  | orAlImm8 | orAxImmv => exact (accImm_touches orOp_flagsOnly h).coherent c
  | sbbAlImm8 | sbbAxImmv => exact (accImm_touches sbbOp_flagsOnly h).coherent c
  | subAlImm8 | subAxImmv => exact (accImm_touches subOp_flagsOnly h).coherent c
  | xorAlImm8 | xorAxImmv => exact (accImm_touches xorOp_flagsOnly h).coherent c
  | testRm8R8 | testRmvRv | testRm8Imm8 | testRmvImmv => exact (testRM_touches h).coherent c
  | testAlImm8 | testAxImmv => exact (testAcc_touches h).coherent c
  | notRm8 | notRmv => exact (rmUnary_touches notOp_flagsOnly h).coherent c
  | negRm8 | negRmv => exact (rmUnary_touches negOp_flagsOnly h).coherent c
  | mulRm8 => exact (mulRM_touches s.setProduct_touches_b8 h).coherent c
  | mulRmv => exact (mulRM_touches (s.setProduct_touches_ofSize _) h).coherent c
  | rolRm8 | rolRmv | rorRm8 | rorRmv | rclRm8 | rclRmv | rcrRm8 | rcrRmv | shlRm8 | shlRmv | shrRm8 | shrRmv | sarRm8
  | sarRmv => exact (shiftRM_touches h).coherent c
  | shldImm8 | shldCl | shrdImm8 | shrdCl => exact (doubleShift_touches h).coherent c
  | movRm8R8 | movRmvRv | movRm8Imm8 | movRmvImmv => exact (movToRM_touches h).coherent c
  | movR8Rm8 | movRvRmv | movsx8 | movsx16 | movzx8 | movzx16 => exact (movFromRM_touches h).coherent c
  | movReg8Imm8 | movRegvImmv => exact (movRegImm_touches h).coherent c
  | movAlMoffs | movAxMoffs => exact (movAccMoffs_touches h).coherent c
  | movMoffsAl | movMoffsAx => exact (movMoffsAcc_touches h).coherent c
  | movRm16Sreg => exact (execMovRm16Sreg_touches h).coherent c
  | movSregRm16 => exact execMovSregRm16_coherent c h
  | movR32Cr | movR32Dr => exact (movFromSpecial_touches h).coherent c
  | movR32Tr => exact (execMovR32Tr_touches h).coherent c
  | movTrR32 => exact (execMovTrR32_touches h).coherent c
  | movCrR32 => exact execMovCrR32_coherent c h
  | movDrR32 => exact (execMovDrR32_steady h).coherent c
  | xchgRm8R8 | xchgRmvRv => exact (xchgRM_touches h).coherent c
  | xchgAxReg => exact (execXchgAxReg_touches h).coherent c
  | xlat => exact (execXlat_touches h).coherent c
  | seto | setno | setb | setnb | setz | setnz | setbe | setnbe | sets | setns | setp | setnp | setl | setnl | setle
  | setnle => exact (setCond_touches h).coherent c
  | sldt | str => exact (storeSel_touches h).coherent c
  | smsw => exact (execSmsw_touches h).coherent c
  | sgdt | sidt => exact (storeTable_touches h).coherent c
  | verr | verw => exact (verify_touches h).coherent c
  | pushReg | pushImmv | pushImm8 => exact (pushValue_touches h).coherent c
  | pushRm => exact (execPushRm_touches h).coherent c
  | pushEs | pushCs | pushSs | pushDs | pushFs | pushGs => exact (pushSeg_steady h).coherent c
  | pusha => exact (execPusha_steady h).coherent c
  | pushf => exact (execPushf_steady h).coherent c
  | popReg => exact (execPopReg_touches h).coherent c
  | popRm => exact (execPopRm_steady h).coherent c
  | popEs | popSs | popDs | popFs | popGs => exact popSeg_coherent c h
  | popa => exact (execPopa_steady h).coherent c
  | popf => exact (execPopf_steady h).coherent c
  | retNear | retNearImm => exact (retNear_touches h).coherent c
  | retFar | retFarImm => exact retFar_coherent c h
  | jo | jno | jb | jnb | jz | jnz | jbe | jnbe | js | jns | jp | jnp | jl | jnl | jle | jnle | jcxz | jmpRel | jmpRel8 =>
    exact (branch_touches h).coherent c
  | loop | loope | loopne => exact (loopBranch_steady h).coherent c
  | outImm8Al | outImm8Ax | outDxAl | outDxAx => exact (out_steady h).coherent c
  | outs8 | outsv => exact (stringOp_steady outsOnce_steady h).coherent c
  | movs8 | movsv => exact (stringOp_steady movsOnce_steady h).coherent c
  | stos8 | stosv => exact (stringOp_steady stosOnce_steady h).coherent c
  | scas8 | scasv => exact (stringOp_steady scasOnce_steady h).coherent c
  | nop => exact (execNop_touches h).coherent c
  | wait => exact (execWait_touches h).coherent c
  | sahf | clc | stc | cmc | cld | std => exact (onlyFlags_steady (by rfl) h).coherent c
  | cli => exact (execCli_steady h).coherent c
  | sti => exact (execSti_steady h).coherent c
  | segEs | segCs | segSs | segDs | segFs | segGs => exact (latchSeg_touches h).coherent c
  | opsize | addrsize | lock | repne | rep => exact (latchUnless_touches h).coherent c

/-- Settles O55: every instruction keeps coherence, and the record of what has been fetched is no part of it. -/
theorem stepKeepsCoherent : Obligations.StepKeepsCoherent := fun s _ c run =>
  step_keeps (fun _ c => (State.Touches.refl _).withLength.coherent c) exec_coherent
    ((State.Touches.refl s).bookkeeping.coherent c) run

end Sys2Proof.Machine
end

section
/-! Memory operands (rules R71 to R76, R79, R86): what a store leaves at each of its bytes, the limit of a segment byte
by byte, and the checks in their order, with the statements about them settled. -/

namespace Sys2Proof.Machine

/-! ### Stores and loads (rules R72, R73) -/

theorem loadBytes_lt (m : Memory) (as : List Nat) : loadBytes m as < 256 ^ as.length := by
  induction as with
  | nil => simp [loadBytes]
  | cons a as ih =>
    have byte := (m.read a).isLt
    simp only [loadBytes, List.length_cons, pow_succ]
    omega

theorem State.addrs_length (s : State) (r : SegReg) (off : Word) (n : Nat) : (s.addrs r off n).length = n := by
  simp [State.addrs]

/-- The addresses of an operand of up to four bytes differ, whatever wraps on the way to them: they leave each its own
remainder modulo 4. -/
theorem State.byteAddr_mod_four {s : State} (bits : 2 ≤ s.cfg.physAddrBits) (r : SegReg) (off : Word) (i : Nat) :
    s.byteAddr r off i % 4 = ((s.seg r).base.toNat + off.toNat + i) % 4 := by
  rw [State.byteAddr, State.phys, Nat.mod_mod_of_dvd _ (Nat.pow_dvd_pow 2 bits)]
  simp only [BitVec.toNat_add, BitVec.toNat_ofNat]
  omega

theorem State.addrs_nodup {s : State} (bits : 2 ≤ s.cfg.physAddrBits) (r : SegReg) (off : Word) {n : Nat} (h : n ≤ 4) :
    (s.addrs r off n).Nodup := by
  refine List.nodup_range.map_on fun i hi j hj same => ?_
  have residues := congrArg (· % 4) same
  simp only [State.byteAddr_mod_four bits, List.mem_range] at *
  omega

theorem State.isRom_poke (s : State) (a : Nat) (b : Byte) : (s.poke a b).isRom = s.isRom := rfl

/-- A byte of a value shifted right by eight places is the next byte of the value. -/
theorem extractLsb'_ushiftRight_eight (v : Word) (i : Nat) :
    (v >>> 8).extractLsb' (8 * i) 8 = v.extractLsb' (8 * (i + 1)) 8 := by
  ext k hk
  simp only [BitVec.getElem_extractLsb', BitVec.getLsbD_ushiftRight]
  congr 1
  omega

/-- Bytes stored at different addresses: byte `i` of the value stands at the address of its place, but for ROM. -/
theorem State.pokes_read {s : State} (wf : s.mem.wf) {as : List Nat} (nodup : as.Nodup) (v : Word) {i : Nat}
    (hi : i < as.length) :
    (s.pokes as v).mem.read as[i] = if s.isRom as[i] = true then s.mem.read as[i] else v.extractLsb' (8 * i) 8 := by
  induction as generalizing s v i with
  | nil => cases hi
  | cons a as ih =>
    obtain ⟨notAgain, nodup⟩ := List.nodup_cons.mp nodup
    cases i with
    | zero =>
      rw [List.getElem_cons_zero, State.pokes, State.pokes_read_other _ _ notAgain, State.poke_read wf]
      cases s.isRom a <;> simp
    | succ i =>
      have hi : i < as.length := Nat.lt_of_succ_lt_succ hi
      have other : as[i] ≠ a := fun same => notAgain (same ▸ List.getElem_mem hi)
      rw [List.getElem_cons_succ, State.pokes, ih (State.poke_wf wf ..) nodup _ hi, State.isRom_poke,
        State.poke_read_other _ _ other, extractLsb'_ushiftRight_eight]

/-- Addresses that hold the bytes of a value, in ascending significance, load as that value (rule R73). -/
theorem loadBytes_of_bytes {m : Memory} {as : List Nat} {v : Word}
    (h : ∀ (i : Nat) (hi : i < as.length), m.read as[i] = v.extractLsb' (8 * i) 8) :
    loadBytes m as = v.toNat % 2 ^ (8 * as.length) := by
  induction as generalizing v with
  | nil => simp [loadBytes, Nat.mod_one]
  | cons a as ih =>
    have low : (m.read a).toNat = v.toNat % 2 ^ 8 := by
      rw [show m.read a = _ from h 0 (by simp)]
      simp
    have rest := ih (v := v >>> 8) fun i hi => by
      rw [extractLsb'_ushiftRight_eight]
      exact h (i + 1) (Nat.succ_lt_succ hi)
    rw [loadBytes, low, rest, BitVec.toNat_ushiftRight, Nat.shiftRight_eq_div_pow, List.length_cons, Nat.mul_succ,
      Nat.add_comm (8 * as.length), pow_add, Nat.mod_mul]
    rfl

theorem State.store_read {s : State} (wf : s.mem.wf) (bits : 2 ≤ s.cfg.physAddrBits) (r : SegReg) (off v : Word)
    {n : Nat} (hn : n ≤ 4) {i : Nat} (hi : i < n) :
    (s.store r off n v).mem.read (s.byteAddr r off i) =
      if s.backing (s.byteAddr r off i) = some .rom then s.mem.read (s.byteAddr r off i)
      else v.extractLsb' (8 * i) 8 := by
  have read := State.pokes_read wf (State.addrs_nodup bits r off hn) v (i := i) (by rwa [s.addrs_length])
  simpa [State.store, State.addrs, State.isRom] using read

theorem State.load_store {s : State} (wf : s.mem.wf) (bits : 2 ≤ s.cfg.physAddrBits) (r : SegReg) (off v : Word)
    {n : Nat} (hn : n ≤ 4) (noRom : ∀ a ∈ s.addrs r off n, s.backing a ≠ some .rom) :
    ((s.store r off n v).load r off n).toNat = v.toNat % 2 ^ (8 * n) := by
  have bytes : loadBytes (s.store r off n v).mem (s.addrs r off n) = v.toNat % 2 ^ (8 * (s.addrs r off n).length) :=
    loadBytes_of_bytes fun i hi => by
      have read := noRom _ (List.getElem_mem hi)
      simp only [State.addrs, List.length_map, List.length_range, List.getElem_map, List.getElem_range] at hi read ⊢
      rw [State.store_read wf bits r off v hn hi, if_neg read]
  rw [State.load, State.addrs_congr (s.store_segs ..) (s.store_cfg ..), bytes, BitVec.toNat_ofNat,
    s.addrs_length]
  exact Nat.mod_eq_of_lt ((Nat.mod_le ..).trans_lt v.isLt)

/-- Settles O8: the addresses of the bytes differ, so each holds the byte of its own place. -/
theorem memoryIsLittleEndian : Obligations.MemoryIsLittleEndian := by
  intro s r off v n wf bits hn
  have four : n ≤ 4 := by revert n; decide
  exact ⟨State.load_store wf bits r off v four, fun i => State.store_read wf bits r off v four,
    fun a => s.store_read_other v, s.store_eq r off n v⟩

/-! ### Limits (rules R74, R76) -/

/-- The last byte of an operand is within a bound exactly when every byte is. -/
theorem last_le_iff {off n limit : Nat} (h : 1 ≤ n) : off + n - 1 ≤ limit ↔ ∀ i, i < n → off + i ≤ limit :=
  ⟨fun c i hi => by omega, fun c => by have := c (n - 1) (by omega); omega⟩

section
variable {s : State} {r : SegReg} {off : Word} {n : Nat}

theorem State.inLimit_of_not_prot (m : s.mode ≠ .prot) : s.inLimit r off n = true ↔ off.toNat + n - 1 ≤ 0xFFFF := by
  unfold State.inLimit
  cases h : s.mode <;> simp_all

theorem State.inLimit_expandDown {writable : Bool} (m : s.mode = .prot)
    (kind : (s.seg r).rights.kind = .data writable true) :
    s.inLimit r off n = true ↔
      (s.seg r).limit.toNat < off.toNat ∧ off.toNat + n - 1 ≤ (s.seg r).rights.top := by
  simp [State.inLimit, m, kind]

theorem State.inLimit_expandUp (m : s.mode = .prot) (kind : ∀ writable, (s.seg r).rights.kind ≠ .data writable true) :
    s.inLimit r off n = true ↔ off.toNat + n - 1 ≤ (s.seg r).limit.toNat := by
  unfold State.inLimit
  rw [m]
  dsimp only
  split
  case h_1 down => exact absurd down (kind _)
  case h_2 => exact decide_eq_true_iff

end

/-- Settles O9: the last byte stands for every byte, and in an expand-down segment the first for the lower bound. -/
theorem segmentLimits : Obligations.SegmentLimits := by
  intro s r off n pos
  refine ⟨fun m => ?real, fun writable m kind => ?expandDown, fun m kind => ?expandUp⟩
  case real => rw [State.inLimit_of_not_prot m, last_le_iff pos]
  case expandUp => rw [State.inLimit_expandUp m kind, last_le_iff pos]
  case expandDown =>
    rw [State.inLimit_expandDown m kind, last_le_iff pos, Rights.top]
    exact ⟨fun ⟨low, high⟩ i hi => ⟨by omega, high i hi⟩, fun c => ⟨(c 0 pos).1, fun i hi => (c i hi).2⟩⟩

/-! ### Checks in their order (rules R72, R75, R79, R86) -/

theorem nullable_iff {r : SegReg} : nullable r = true ↔ r ≠ .cs ∧ r ≠ .ss := by cases r <;> decide

theorem State.segFault_eq (s : State) (r : SegReg) :
    s.segFault r =
      .exception (if r = .ss then .stackFault else .generalProtection) (if s.mode = .real then none else some 0) := by
  unfold State.segFault State.zeroCode
  cases r <;> cases s.mode <;> rfl

section
variable {s : State} {k : Access} {r : SegReg} {off : Word} {n : Nat}

theorem State.accessFault_null (m : s.mode = .prot) (cs : r ≠ .cs) (ss : r ≠ .ss) (null : (s.seg r).valid = false) :
    s.accessFault k r off n = some (.exception .generalProtection (some 0)) :=
  if_pos ⟨m, nullable_iff.mpr ⟨cs, ss⟩, null⟩

/-- The segment register is CS or SS, or holds no null selector: the first test does not apply. -/
theorem not_null_of_usable (usable : r = .cs ∨ r = .ss ∨ (s.seg r).valid = true) :
    ¬(nullable r = true ∧ (s.seg r).valid = false) := by
  rw [nullable_iff]
  rintro ⟨⟨cs, ss⟩, null⟩
  simp [cs, ss, null] at usable

theorem State.accessFault_rights (m : s.mode = .prot) (usable : r = .cs ∨ r = .ss ∨ (s.seg r).valid = true)
    (denied : (s.seg r).rights.allows k = false) :
    s.accessFault k r off n = some (.exception .generalProtection (some 0)) := by
  rw [State.accessFault, if_neg fun c => not_null_of_usable usable c.2, if_pos ⟨m, denied⟩]

theorem State.accessFault_limit
    (passes : s.mode = .prot → (r = .cs ∨ r = .ss ∨ (s.seg r).valid = true) ∧ (s.seg r).rights.allows k = true)
    (outside : s.inLimit r off n = false) : s.accessFault k r off n = some (s.segFault r) := by
  have allowed : ¬(s.mode = .prot ∧ (s.seg r).rights.allows k = false) := fun c => by simp [passes c.1] at c
  rw [State.accessFault, if_neg fun c => not_null_of_usable (passes c.1).1 c.2, if_neg allowed, outside,
    if_neg Bool.false_ne_true]

theorem State.checkAccess_of_fault {f : Fault} (h : s.accessFault k r off n = some f) :
    s.checkAccess k r off n = .error (.fault f) :=
  State.checkAccess_eq_error.mpr (.inl ⟨f, h, rfl⟩)

/-- The first byte of an operand that the host does not back with memory names the refusal. -/
theorem State.backRefusal_first {i : Nat} (hi : i < n)
    (before : ∀ j, j < i → s.backing (s.byteAddr r off j) = some .ram ∨ s.backing (s.byteAddr r off j) = some .rom)
    {why : Refusal} (here : s.accessRefusal (s.byteAddr r off i) = some why) :
    s.backRefusal (s.addrs r off n) = some why := by
  obtain ⟨rest, rfl⟩ : ∃ rest, n = i + (rest + 1) := ⟨n - i - 1, by omega⟩
  have passed : s.backRefusal (s.addrs r off i) = none :=
    State.backRefusal_eq_none.mpr (by simpa [State.addrs, State.Backed])
  rw [State.backRefusal, State.addrs] at passed ⊢
  rw [List.range_add, List.map_append, List.findSome?_append, passed, Option.none_or, List.range_succ_eq_map]
  simp [here]

theorem State.checkAccess_first {i : Nat} (noFault : s.accessFault k r off n = none) (hi : i < n)
    (before : ∀ j, j < i → s.backing (s.byteAddr r off j) = some .ram ∨ s.backing (s.byteAddr r off j) = some .rom)
    {why : Refusal} (here : s.accessRefusal (s.byteAddr r off i) = some why) :
    s.checkAccess k r off n = .error (.refused why) :=
  State.checkAccess_eq_error.mpr (.inr ⟨noFault, why, State.backRefusal_first hi before here, rfl⟩)

end

theorem State.backing_eq_none {s : State} {rs : List MemRegion} (h : s.cfg.memoryMap = .regions rs) {a : Nat} :
    s.backing a = none ↔ ∀ g ∈ rs, ¬(g.base ≤ a ∧ a < g.base + g.size) := by
  simp [State.backing, h]

/-- Data can be read, and written by its mark; code can be read by its mark, and not written; nothing else can be
accessed. -/
theorem Rights.allows_of_kind (ar : Rights) (x y : Bool) :
    (ar.kind = .data x y → ar.allows .read = true ∧ ar.allows .write = x) ∧
      (ar.kind = .code x y → ar.allows .read = x ∧ ar.allows .write = false) ∧
      (ar.kind = .system → ar.allows .read = false ∧ ar.allows .write = false) := by
  simp only [Rights.allows, Rights.readable, Rights.writable]
  refine ⟨?_, ?_, ?_⟩ <;> rintro kind <;> simp [kind]

open State in
/-- Settles O10: the faults in the order of `State.accessFault`, then the first byte that is not backed. -/
theorem accessChecks : Obligations.AccessChecks := by
  intro s k r off n
  refine ⟨fun m cs ss null => checkAccess_of_fault (accessFault_null m cs ss null),
    fun m usable denied => checkAccess_of_fault (accessFault_rights m usable denied),
    fun passes outside => s.segFault_eq r ▸ checkAccess_of_fault (accessFault_limit passes outside),
    checkAccess_eq_ok, fun noFault i hi before => ⟨fun here => ?unbacked, fun here => ?device⟩,
    fun a rs h => backing_eq_none h, Rights.allows_of_kind⟩
  case unbacked | device => exact checkAccess_first noFault hi before (by rw [accessRefusal, here])

end Sys2Proof.Machine
end

section
/-! Descriptors and segment loads (rules R80 to R86): the fields of the eight bytes, the look-up in the tables, and the
outcomes of each load, with the statements about them settled. -/

namespace Sys2Proof.Machine

/-! ### The eight bytes of a descriptor (rule R81) -/

theorem append_toNat {n m : Nat} (x : BitVec n) (y : BitVec m) : (x ++ y).toNat = x.toNat * 2 ^ m + y.toNat := by
  rw [BitVec.toNat_append, ← Nat.shiftLeft_add_eq_or_of_lt y.isLt, Nat.shiftLeft_eq]

theorem extractLsb'_toNat_eq {n : Nat} (x : BitVec n) (i k : Nat) :
    (x.extractLsb' i k).toNat = x.toNat / 2 ^ i % 2 ^ k := by
  rw [BitVec.extractLsb'_toNat, Nat.shiftRight_eq_div_pow]

/-- Byte `i` of an eight-byte number. -/
def wordByte (d : BitVec 64) (i : Nat) : Byte := d.extractLsb' (8 * i) 8

theorem getLsbD_wordByte (d : BitVec 64) (i k : Nat) (h : k < 8) :
    (wordByte d i).getLsbD k = d.getLsbD (8 * i + k) := by
  simp [wordByte, h]

theorem wordByte_eq {d : BitVec 64} {i : Nat} {b : Byte} (h : d.toNat / 2 ^ (8 * i) % 2 ^ 8 = b.toNat) :
    wordByte d i = b :=
  BitVec.eq_of_toNat_eq ((extractLsb'_toNat_eq ..).trans h)

theorem wordByte_append (b0 b1 b2 b3 b4 b5 b6 b7 : Byte) :
    (List.range 8).map (wordByte (b7 ++ b6 ++ b5 ++ b4 ++ b3 ++ b2 ++ b1 ++ b0)) =
      [b0, b1, b2, b3, b4, b5, b6, b7] := by
  simp only [List.range_succ, List.range_zero, List.nil_append, List.map_cons, List.map_nil,
    List.cons_append, List.cons.injEq, and_true]
  and_intros <;> refine wordByte_eq ?_ <;> simp only [append_toNat] <;> omega

/-- Eight bytes of memory load as the number whose bytes they are (rule R73). -/
theorem ofNat_loadBytes (m : Memory) (a : Nat → Nat) :
    BitVec.ofNat 64 (loadBytes m ((List.range 8).map a)) =
      m.read (a 7) ++ m.read (a 6) ++ m.read (a 5) ++ m.read (a 4) ++ m.read (a 3) ++ m.read (a 2) ++ m.read (a 1) ++
        m.read (a 0) := by
  apply BitVec.eq_of_toNat_eq
  simp only [List.range_succ, List.range_zero, List.nil_append, List.map_cons, List.map_nil,
    List.cons_append, loadBytes, BitVec.toNat_ofNat, append_toNat]
  omega

section
variable (d : BitVec 64)

theorem decodeDescriptor_base :
    (decodeDescriptor d).base = wordByte d 7 ++ wordByte d 4 ++ wordByte d 3 ++ wordByte d 2 := by
  apply BitVec.eq_of_toNat_eq
  simp only [decodeDescriptor, wordByte, append_toNat, extractLsb'_toNat_eq]
  omega

theorem decodeDescriptor_dpl : (decodeDescriptor d).rights.dpl = (wordByte d 5).extractLsb' 5 2 := by
  apply BitVec.eq_of_toNat_eq
  simp only [decodeDescriptor, wordByte, extractLsb'_toNat_eq]
  omega

theorem decodeDescriptor_present : (decodeDescriptor d).rights.present = (wordByte d 5).getLsbD 7 :=
  (getLsbD_wordByte d 5 7 (by decide)).symm

theorem decodeDescriptor_big : (decodeDescriptor d).rights.big = (wordByte d 6).getLsbD 6 :=
  (getLsbD_wordByte d 6 6 (by decide)).symm

theorem decodeDescriptor_kind :
    (decodeDescriptor d).rights.kind =
      if (wordByte d 5).getLsbD 4 = false then .system
      else if (wordByte d 5).getLsbD 3 then .code ((wordByte d 5).getLsbD 1) ((wordByte d 5).getLsbD 2)
      else .data ((wordByte d 5).getLsbD 1) ((wordByte d 5).getLsbD 2) := by
  have bit := getLsbD_wordByte d 5
  rw [bit 4 (by decide), bit 3 (by decide), bit 2 (by decide), bit 1 (by decide), decodeDescriptor]
  cases d.getLsbD 44 <;> rfl

/-- The limit field counts pages of 4096 bytes, the last byte of the last included (rule R80). -/
theorem pages_toNat {raw : Word} (h : raw.toNat < 2 ^ 20) :
    ((raw <<< 12) ||| 0xFFF).toNat = raw.toNat * 4096 + 4095 := by
  rw [BitVec.toNat_or, BitVec.toNat_shiftLeft, Nat.shiftLeft_eq, Nat.mod_eq_of_lt (by omega), ← Nat.shiftLeft_eq]
  exact (Nat.shiftLeft_add_eq_or_of_lt (by decide) _).symm.trans (by rw [Nat.shiftLeft_eq]; rfl)

theorem decodeDescriptor_limit {raw : Nat}
    (h : raw = (wordByte d 6).toNat % 16 * 65536 + (wordByte d 1).toNat * 256 + (wordByte d 0).toNat) :
    (decodeDescriptor d).limit.toNat = if (wordByte d 6).getLsbD 7 then raw * 4096 + 4095 else raw := by
  have high : (d.extractLsb' 48 4).toNat = (wordByte d 6).toNat % 16 := by
    simp only [wordByte, extractLsb'_toNat_eq]
    omega
  have low : (d.extractLsb' 0 16).toNat = (wordByte d 1).toNat * 256 + (wordByte d 0).toNat := by
    simp only [wordByte, extractLsb'_toNat_eq]
    omega
  have field : ((d.extractLsb' 48 4 ++ d.extractLsb' 0 16).setWidth 32).toNat = raw := by
    rw [BitVec.toNat_setWidth, append_toNat, high, low, h]
    omega
  rw [getLsbD_wordByte d 6 7 (by decide), ← field, decodeDescriptor]
  split
  case isTrue paged => exact pages_toNat (by rw [field]; omega)
  case isFalse => rfl

end

/-! ### The look-up (rules R80, R81) -/

theorem State.linearAddrs_add (s : State) (base : Word) (k n : Nat) :
    s.linearAddrs (base + BitVec.ofNat 32 k) n =
      (List.range n).map fun i => s.phys (base + BitVec.ofNat 32 (k + i)) := by
  simp [State.linearAddrs, BitVec.ofNat_add, BitVec.add_assoc]

section
variable {s : State} {sel : Half} {base : Word} {limit : Nat}

theorem State.tableOf_nullLdt (ti : sel.getLsbD 2 = true) (null : s.ldtr.sel.toNat < 4) : s.tableOf sel = none := by
  rw [State.tableOf, if_pos ti, if_pos (isNull_iff.mpr null)]

theorem State.tableOf_eq
    (table : if sel.getLsbD 2 then base = s.ldtr.base ∧ limit = s.ldtr.limit.toNat
      else base = s.gdtr.base ∧ limit = s.gdtr.limit.toNat)
    (usable : sel.getLsbD 2 = true → 4 ≤ s.ldtr.sel.toNat) : s.tableOf sel = some (base, limit) := by
  unfold State.tableOf
  split at table <;> obtain ⟨rfl, rfl⟩ := table
  case isTrue ti => rw [if_pos ti, if_neg fun c => absurd (isNull_iff.mp c) (Nat.not_lt.mpr (usable ti))]
  case isFalse ti => rw [if_neg ti]

/-- The place of a selector's entry in its table. -/
theorem index_eq (sel : Half) : (sel.extractLsb' 3 13).toNat * 8 = sel.toNat / 8 * 8 := by
  rw [extractLsb'_toNat_eq]
  omega

theorem State.lookUp_noTable (h : s.tableOf sel = none) : s.lookUp sel = .ok none := by
  simp [State.lookUp, h]

theorem State.lookUp_beyond (h : s.tableOf sel = some (base, limit)) (beyond : limit < sel.toNat / 8 * 8 + 7) :
    s.lookUp sel = .ok none := by
  simp only [State.lookUp, h, index_eq, Nat.not_le.mpr beyond, if_false]

theorem State.lookUp_within (h : s.tableOf sel = some (base, limit)) (within : sel.toNat / 8 * 8 + 7 ≤ limit)
    (backed : s.Backed ((List.range 8).map fun i => s.phys (base + BitVec.ofNat 32 (sel.toNat / 8 * 8 + i)))) :
    s.lookUp sel = .ok (some (decodeDescriptor (BitVec.ofNat 64 (loadBytes s.mem
      ((List.range 8).map fun i => s.phys (base + BitVec.ofNat 32 (sel.toNat / 8 * 8 + i))))))) := by
  simp only [State.lookUp, h, index_eq, within, if_true, State.linearAddrs_add,
    State.checkBacked_eq_ok.mpr backed, ok_bind]

end

open State in
/-- Settles O13: the fields of a number are fields of its bytes, and the look-up loads the eight bytes of the entry. -/
theorem descriptorLookUp : Obligations.DescriptorLookUp := by
  refine ⟨fun b0 b1 b2 b3 b4 b5 b6 b7 => ?fields, fun s sel base limit table => ⟨fun host => ?host, fun standard => ?_⟩⟩
  case fields =>
    intro d raw
    have bytes := wordByte_append b0 b1 b2 b3 b4 b5 b6 b7
    simp only [List.range_succ, List.range_zero, List.nil_append, List.map_cons, List.map_nil, List.cons_append,
      List.cons.injEq, and_true] at bytes
    obtain ⟨e0, e1, e2, e3, e4, e5, e6, e7⟩ := bytes
    refine ⟨?_, ?_, ?_, ?_, ?_, ?_⟩
    · rw [decodeDescriptor_base, e7, e4, e3, e2]
    · rw [decodeDescriptor_limit (raw := raw) _ (by rw [e6, e1, e0]), e6]
    · rw [decodeDescriptor_present, e5]
    · rw [decodeDescriptor_dpl, e5]
    · rw [decodeDescriptor_big, e6]
    · rw [decodeDescriptor_kind, e5]
  case host => rw [readDescriptor, host]
  intro at_ byte
  rw [readDescriptor_standard standard]
  refine ⟨fun ti null => lookUp_noTable (tableOf_nullLdt ti null),
    fun usable beyond => lookUp_beyond (tableOf_eq table usable) beyond, fun usable within backed => ?_⟩
  rw [lookUp_within (tableOf_eq table usable) within backed, ofNat_loadBytes]

/-! ### Loads of segment registers (rules R82 to R86) -/

theorem Rights.writable_eq_false {ar : Rights} : ar.writable = false ↔ ∀ down, ar.kind ≠ .data true down := by
  rw [Rights.writable]
  rcases ar.kind with ⟨_ | _, _⟩ | _ | _ <;> simp

theorem Rights.readable_eq_false {ar : Rights} :
    ar.readable = false ↔ ar.kind = .system ∨ ∃ c, ar.kind = .code false c := by
  rw [Rights.readable]
  rcases ar.kind with _ | ⟨_ | _, _⟩ | _ <;> simp

theorem Descriptor.conforming_eq_true {d : Descriptor} :
    d.conforming = true ↔ ∃ x, d.rights.kind = .code x true := by
  rw [Descriptor.conforming]
  rcases d.rights.kind with _ | ⟨_, _ | _⟩ | _ <;> simp

theorem rplOf_toNat (sel : Half) : (rplOf sel).toNat = sel.toNat % 4 := by
  rw [rplOf, extractLsb'_toNat_eq]
  omega

/-- `DataPrivOK` (rule R82). -/
theorem Descriptor.dataPrivOK_eq_true {d : Descriptor} {sel : Half} {cpl : BitVec 2} :
    d.dataPrivOK (rplOf sel) cpl = true ↔ (∃ x, d.rights.kind = .code x true) ∨
      (sel.toNat % 4 ≤ d.rights.dpl.toNat ∧ cpl.toNat ≤ d.rights.dpl.toNat) := by
  simp [Descriptor.dataPrivOK, Descriptor.conforming_eq_true, rplOf_toNat]

theorem Descriptor.dataPrivOK_eq_false {d : Descriptor} {sel : Half} {cpl : BitVec 2} :
    d.dataPrivOK (rplOf sel) cpl = false ↔ ¬((∃ x, d.rights.kind = .code x true) ∨
      (sel.toNat % 4 ≤ d.rights.dpl.toNat ∧ cpl.toNat ≤ d.rights.dpl.toNat)) := by
  rw [← Descriptor.dataPrivOK_eq_true, Bool.not_eq_true]

theorem realSegment_eq (sel : Half) :
    realSegment sel =
      { sel := sel, valid := true, base := sel.setWidth 32 * 16, limit := 0xFFFF, rights := realRights } := by
  have base : sel.setWidth 32 <<< 4 = sel.setWidth 32 * (16 : Word) := by
    apply BitVec.eq_of_toNat_eq
    simp [Nat.shiftLeft_eq]
  rw [realSegment, base]

section
variable {s : State} {r : SegReg} {sel : Half} {d : Descriptor}

theorem State.loadSeg_not_prot (m : s.mode ≠ .prot) : s.loadSeg r sel = .ok (s.setSeg r (realSegment sel)) := by
  unfold State.loadSeg
  cases h : s.mode with
  | prot => exact absurd h m
  | real | v86 => rfl

theorem State.loadSeg_ss (m : s.mode = .prot) : s.loadSeg .ss sel = s.loadSS sel := by simp [State.loadSeg, m]

theorem State.loadSeg_data (m : s.mode = .prot) (h : r ≠ .ss) : s.loadSeg r sel = s.loadDataSeg r sel := by
  cases r with
  | ss => exact absurd rfl h
  | _ => simp [State.loadSeg, m]

theorem isNull_eq_false (h : 4 ≤ sel.toNat) : isNull sel = false := by
  rw [Bool.eq_false_iff, ne_eq, isNull_iff]
  omega

theorem State.descriptor_none (h : s.readDescriptor sel = .ok none) : s.descriptor sel = raiseGPSel sel := by
  rw [State.descriptor, h, ok_bind]

theorem State.descriptor_some (h : s.readDescriptor sel = .ok (some d)) : s.descriptor sel = .ok d := by
  rw [State.descriptor, h, ok_bind]

theorem State.loadSS_null (h : sel.toNat < 4) : s.loadSS sel = raiseGP0 := by
  rw [State.loadSS, isNull_iff.mpr h]
  rfl

theorem State.loadSS_none (h : 4 ≤ sel.toNat) (out : s.readDescriptor sel = .ok none) :
    s.loadSS sel = raiseGPSel sel := by
  rw [State.loadSS, isNull_eq_false h, State.descriptor_none out]
  rfl

/-- The tests of `LoadSS` in their order (rule R83). -/
theorem State.loadSS_some (h : 4 ≤ sel.toNat) (found : s.readDescriptor sel = .ok (some d)) :
    s.loadSS sel =
      if rplOf sel ≠ s.cpl then raiseGPSel sel
      else if d.rights.writable = false then raiseGPSel sel
      else if d.rights.dpl ≠ s.cpl then raiseGPSel sel
      else if d.rights.present = false then raise .stackFault (some (errSel sel))
      else .ok (s.setSeg .ss (segmentOf sel d)) := by
  rw [State.loadSS, isNull_eq_false h, State.descriptor_some found]
  rfl

theorem State.loadDataSeg_null (h : sel.toNat < 4) :
    s.loadDataSeg r sel = .ok (s.setSeg r { s.seg r with sel := sel, valid := false }) := by
  rw [State.loadDataSeg, if_pos (isNull_iff.mpr h)]

theorem State.loadDataSeg_none (h : 4 ≤ sel.toNat) (out : s.readDescriptor sel = .ok none) :
    s.loadDataSeg r sel = raiseGPSel sel := by
  rw [State.loadDataSeg, isNull_eq_false h, State.descriptor_none out]
  rfl

/-- The tests of `LoadDataSeg` in their order (rule R84). -/
theorem State.loadDataSeg_some (h : 4 ≤ sel.toNat) (found : s.readDescriptor sel = .ok (some d)) :
    s.loadDataSeg r sel =
      if d.rights.readable = false then raiseGPSel sel
      else if d.dataPrivOK (rplOf sel) s.cpl = false then raiseGPSel sel
      else if d.rights.present = false then raiseNPSel sel
      else .ok (s.setSeg r (segmentOf sel d)) := by
  rw [State.loadDataSeg, isNull_eq_false h, State.descriptor_some found]
  rfl

end

open State in
/-- Settles O14: the loads by mode and register, each test read off the descriptor's kind. -/
theorem segmentLoadRules : Obligations.SegmentLoadRules := by
  intro s r sel d? gp
  refine ⟨fun m => ?real, fun m null => ⟨?nullSS, fun notSS => ?nullData⟩,
    fun m notNull read => ⟨?ss, fun notSS => ?data⟩⟩
  case real => rw [loadSeg_not_prot m, realSegment_eq]
  case nullSS => rw [loadSeg_ss m, loadSS_null null]; rfl
  case nullData => rw [loadSeg_data m notSS, loadDataSeg_null null]
  case ss =>
    rw [loadSeg_ss m]
    cases d? with
    | none => exact loadSS_none notNull read
    | some d =>
      simp only [loadSS_some notNull read, Rights.writable_eq_false]
      rfl
  case data =>
    rw [loadSeg_data m notSS]
    cases d? with
    | none => exact loadDataSeg_none notNull read
    | some d =>
      simp only [loadDataSeg_some notNull read, Rights.readable_eq_false, Descriptor.dataPrivOK_eq_false]
      rfl

end Sys2Proof.Machine
end

section
/-! OR, SBB, SUB, XOR, NOT, NEG and the shifts (rules R78, R261 to R268, R360 to R372): what each form completes with,
and where the check of its operand stops it, with the statements about them settled. -/

namespace Sys2Proof.Machine

/-! ### How an operand form ends -/

section
variable {s : State} {w : Width} {rm : RM}

/-- An instruction that stops with every stop of its write check. -/
theorem State.stopsWithCheck_write {i : Instr} {x : M State} {p : Place} (runs : exec i s = outcome x)
    (stops : ∀ e, s.checkWrite w p = .error e → x = .error e) : s.StopsWithCheck i .write w p := by
  rintro g off e rfl h
  rw [runs, stops e h]

/-- An instruction that stops with every stop of its read check. -/
theorem State.stopsWithCheck_read {i : Instr} {x : M State} {p : Place} (runs : exec i s = outcome x)
    (stops : ∀ e, s.checkRead w p = .error e → x = .error e) : s.StopsWithCheck i .read w p := by
  rintro g off e rfl h
  rw [runs, stops e h]

theorem State.modifyRM_completes (may : s.MayWrite w (s.place rm)) (f : Word → State → Word × State) :
    s.modifyRM w rm f = .ok ((s.place rm).finish w (f (s.readAt w (s.place rm)) s)) :=
  State.modifyRM_eq_ok.mpr ⟨may, rfl⟩

theorem State.modifyRM_stops {e : Stop} (h : s.checkWrite w (s.place rm) = .error e) (f : Word → State → Word × State) :
    s.modifyRM w rm f = .error e :=
  check_stops h

/-- When each instruction of a table runs `meaning` of its entry, that is what one of them runs. -/
theorem exec_of_table {α : Type} {table : List (Instr × α)} (meaning : α → M State)
    (runs : table.map (fun q => exec q.1 s) = table.map fun q => outcome (meaning q.2)) {q : Instr × α}
    (hq : q ∈ table) : exec q.1 s = outcome (meaning q.2) :=
  List.map_inj_left.mp runs q hq

/-- When `meaning` also completes with `result` of the entry it is given, each instruction of the table completes with
its own. -/
theorem exec_completes_of_table {α : Type} {table : List (Instr × α)} {meaning : α → M State} {result : α → State}
    (runs : table.map (fun q => exec q.1 s) = table.map fun q => outcome (meaning q.2))
    (completes : ∀ x, meaning x = .ok (result x)) : ∀ q ∈ table, exec q.1 s = .next (result q.2) := fun q hq =>
  (exec_of_table meaning runs hq).trans (outcome_eq_next.mpr (completes q.2))

end

/-! ### The forms of OR, SBB, SUB and XOR (rule R261) -/

section
variable {s : State} {w : Width} {rm : RM} {r : Reg} {v : Word}

theorem State.rmReg_completes (lock : s.LockFits rm) (may : s.MayWrite w (s.place rm)) (f : Binary) :
    s.rmReg f w rm r = .ok ((s.place rm).finish w (f w (s.readAt w (s.place rm)) (s.reg w r) s)) :=
  State.rmReg_eq_ok.mpr ⟨lock, may, rfl⟩

theorem State.rmImm_completes (lock : s.LockFits rm) (may : s.MayWrite w (s.place rm)) (f : Binary) :
    s.rmImm f w rm v = .ok ((s.place rm).finish w (f w (s.readAt w (s.place rm)) v s)) :=
  State.rmImm_eq_ok.mpr ⟨lock, may, rfl⟩

theorem State.regRm_completes (unlocked : s.Unlocked) (may : s.MayRead w (s.place rm)) (f : Binary) :
    s.regRm f w rm r = .ok ((Place.reg r).finish w (f w (s.reg w r) (s.readAt w (s.place rm)) s)) :=
  State.regRm_eq_ok.mpr ⟨unlocked, may, rfl⟩

theorem State.accImm_completes (unlocked : s.Unlocked) (f : Binary) :
    s.accImm f w v = .ok ((Place.reg .eax).finish w (f w (s.reg w .eax) v s)) :=
  State.accImm_eq_ok.mpr ⟨unlocked, rfl⟩

/-- A form whose destination is its r/m operand, when LOCK may stand before it. -/
theorem State.stopsWithCheck_lockMem {i : Instr} {f : Word → State → Word × State} (lock : s.LockFits rm)
    (runs : exec i s = outcome (do s.lockMem rm; s.modifyRM w rm f)) : s.StopsWithCheck i .write w (s.place rm) :=
  State.stopsWithCheck_write runs fun _ h =>
    (check_passes (State.lockMem_eq_ok.mpr lock)).trans (State.modifyRM_stops h f)

theorem State.stopsWithCheck_regRm {i : Instr} {f : Binary} (unlocked : s.Unlocked)
    (runs : exec i s = outcome (s.regRm f w rm r)) : s.StopsWithCheck i .read w (s.place rm) :=
  State.stopsWithCheck_read runs fun e h => by
    rw [State.regRm, State.readRM, check_passes (State.noLock_eq_ok.mpr unlocked), h]
    rfl

end

open State in
/-- Settles O23: the forms of one table differ in the function they apply, and share the meaning and its stop. -/
theorem twoOperandFormsComplete : Obligations.TwoOperandFormsComplete := by
  intro s rm r i8 iv
  refine ⟨fun lock may => ⟨?rmReg8, ?rmImm8⟩, fun lock may => ⟨?rmReg, ?rmImm, ?rmSignedImm⟩,
    fun unlocked may => ?regRm8, fun unlocked may => ?regRm, fun unlocked => ⟨?accImm8, ?accImm⟩,
    fun lock => ⟨?write8, ?write⟩, fun unlocked => ⟨?read8, ?read⟩⟩
  case rmReg8 | rmReg => exact exec_completes_of_table rfl (rmReg_completes lock may)
  case rmImm8 | rmImm | rmSignedImm => exact exec_completes_of_table rfl (rmImm_completes lock may)
  case regRm8 | regRm => exact exec_completes_of_table rfl (regRm_completes unlocked may)
  case accImm8 | accImm => exact exec_completes_of_table rfl (accImm_completes unlocked)
  case write8 | write =>
    simp only [List.forall_mem_cons, List.not_mem_nil, false_imp_iff, implies_true, and_true]
    and_intros <;> exact stopsWithCheck_lockMem lock rfl
  case read8 | read =>
    simp only [List.forall_mem_cons, List.not_mem_nil, false_imp_iff, implies_true, and_true]
    and_intros <;> exact stopsWithCheck_regRm unlocked rfl

/-! ### Values of operands (rules R7, R200) -/

theorem Width.two_pow_bits_eq (w : Width) : 2 ^ w.bits = 256 ^ w.bytes := by cases w <;> rfl

/-- An operand read is a value of its width. -/
theorem State.readAt_lt (s : State) (w : Width) (p : Place) : (s.readAt w p).toNat < 2 ^ w.bits := by
  cases p with
  | reg r =>
    cases w with
    | b8 => simp [State.readAt, State.reg_b8, Width.bits]; omega
    | w16 => simp [State.readAt, State.reg, Width.bits]; omega
    | d32 => exact (s.reg .d32 r).isLt
  | mem g off =>
    have lt := loadBytes_lt s.mem (s.addrs g off w.bytes)
    rw [s.addrs_length, ← w.two_pow_bits_eq] at lt
    exact (Nat.mod_le ..).trans_lt lt

/-! ### NOT and NEG (rules R263, R264) -/

theorem Width.trunc_not_toNat (w : Width) {a : Word} (h : a.toNat < 2 ^ w.bits) :
    (w.trunc (~~~a)).toNat + a.toNat = 2 ^ w.bits - 1 := by
  rw [w.trunc_toNat, BitVec.toNat_not]
  cases w <;> simp only [Width.bits] at * <;> omega

/-- The negation of a value of the width overflows for the lowest signed value only. -/
theorem subtract_zero_ofl_iff (w : Width) {a : Word} (h : a.toNat < 2 ^ w.bits) :
    (subtract w 0 a false).ofl = true ↔ a.toNat = 2 ^ (w.bits - 1) := by
  rw [subtract_ofl_iff, signed_subtract_r, Ne, w.bmod_eq_self_iff]
  simp only [Width.signed_eq_bmod, Int.bmod_def]
  cases w <;> simp [Width.bits] at * <;> omega

theorem State.rmUnary_completes {s : State} {w : Width} {rm : RM} (lock : s.LockFits rm)
    (may : s.MayWrite w (s.place rm)) (f : Unary) :
    outcome (s.rmUnary f w rm) = .next ((s.place rm).finish w (f w (s.readAt w (s.place rm)) s)) :=
  outcome_eq_next.mpr (State.rmUnary_eq_ok.mpr ⟨lock, may, rfl⟩)

/-- The value and the flags of NEG (rule R263). -/
theorem negOp_eq (w : Width) {a : Word} (h : a.toNat < 2 ^ w.bits) (s : State) :
    ∃ (v : Word) (f : Flags), (v.toNat : Int) = (-(a.toNat : Int)) % 2 ^ w.bits ∧ (f.cf = true ↔ a ≠ 0) ∧
      (f.ofl = true ↔ a.toNat = 2 ^ (w.bits - 1)) ∧ f.sf = v.getLsbD (w.bits - 1) ∧ (f.zf = true ↔ v = 0) ∧
      f.pf = parity8 v ∧ s.flags.KeepsControl f ∧ negOp w a s = (v, (s.setFlags f).drawn) :=
  ⟨_, _, by simp [subtract_r_toNat], bne_iff_ne, subtract_zero_ofl_iff w h, rfl, beq_iff_eq, rfl,
    s.flags.neg_keepsControl w a _ _, rfl⟩

open State in
/-- Settles O24: the bits reversed add up with the operand to all ones, and NEG is `Sub_N` from zero. -/
theorem notAndNegComplete : Obligations.NotAndNegComplete := by
  intro s rm lock
  refine ⟨fun q hq may => ?not, fun q hq may => ?neg, ?stops⟩
  case not =>
    have runs := exec_of_table (s := s) (fun w => s.rmUnary notOp w rm) rfl hq
    exact ⟨_, q.2.trunc_not_toNat (s.readAt_lt ..), runs.trans (rmUnary_completes lock may notOp)⟩
  case neg =>
    have runs := exec_of_table (s := s) (fun w => s.rmUnary negOp w rm) rfl hq
    obtain ⟨v, f, value, cf, ofl, sf, zf, pf, control, op⟩ := negOp_eq q.2 (s.readAt_lt q.2 (s.place rm)) s
    exact ⟨v, f, value, cf, ofl, sf, zf, pf, control, op ▸ runs.trans (rmUnary_completes lock may negOp)⟩
  case stops =>
    simp only [List.forall_mem_cons, List.not_mem_nil, false_imp_iff, implies_true, and_true]
    and_intros <;> exact stopsWithCheck_lockMem lock rfl

/-! ### The rotates and shifts (rule R360) -/

theorem State.shiftRM_completes {s : State} {w : Width} {rm : RM} (unlocked : s.Unlocked)
    (may : s.MayWrite w (s.place rm)) (n : Count) (k : Shift) :
    s.shiftRM k w rm n = .ok ((s.place rm).finish w (shiftOp k w (s.shiftCount n) (s.readAt w (s.place rm)) s)) :=
  State.shiftRM_eq_ok.mpr ⟨unlocked, may, rfl⟩

theorem State.cl_mod (s : State) : (s.reg .b8 .ecx).toNat % 32 = s.regs.ecx.toNat % 32 := by
  simp [State.reg_b8, byteHome, byteShift, GRegs.get]

/-- A form whose destination is its r/m operand and which takes no LOCK. -/
theorem State.stopsWithCheck_noLock {s : State} {w : Width} {rm : RM} {i : Instr} {f : Word → State → Word × State}
    (unlocked : s.Unlocked) (runs : exec i s = outcome (do s.noLock; s.modifyRM w rm f)) :
    s.StopsWithCheck i .write w (s.place rm) :=
  State.stopsWithCheck_write runs fun _ h =>
    (check_passes (State.noLock_eq_ok.mpr unlocked)).trans (State.modifyRM_stops h f)

open State in
/-- Settles O34: the fourteen forms are `State.shiftRM` of their instruction, whose count is that of rule R360. -/
theorem shiftFormsComplete : Obligations.ShiftFormsComplete := by
  intro s rm n unlocked count masked
  obtain rfl : s.shiftCount n = count := by
    rw [masked]
    cases n with
    | cl => exact s.cl_mod
    | one | imm8 => rfl
  refine ⟨fun may => ?full8, fun may => ?full, ?stop8, ?stop⟩
  case full8 | full => exact exec_completes_of_table rfl (shiftRM_completes unlocked may n)
  case stop8 | stop =>
    simp only [List.forall_mem_cons, List.not_mem_nil, false_imp_iff, implies_true, and_true]
    and_intros <;> exact stopsWithCheck_noLock unlocked rfl

/-! ### SHLD and SHRD (rules R368, R369) -/

section
variable {s : State} {rm : RM} {r : Reg} {value : Width → Word → Word → Nat → Word × Bool} {count : Nat}

/-- A count of 0 changes no operand and no flag. -/
theorem State.doubleShift_zero (unlocked : s.Unlocked) (may : s.MayWrite s.opWidth (s.place rm)) (h : count % 32 = 0) :
    s.doubleShift value rm r count = .ok s.retire := by
  rw [State.doubleShift, check_passes (State.noLock_eq_ok.mpr unlocked), if_pos h,
    check_passes (State.checkWrite_eq_ok.mpr may)]

theorem State.doubleShift_of_ne_zero (unlocked : s.Unlocked) (may : s.MayWrite s.opWidth (s.place rm))
    (h : count % 32 ≠ 0) :
    s.doubleShift value rm r count = .ok ((s.place rm).finish s.opWidth
      (doubleShiftOp value s.opWidth (s.reg s.opWidth r) (count % 32) (s.readAt s.opWidth (s.place rm)) s)) := by
  rw [State.doubleShift, check_passes (State.noLock_eq_ok.mpr unlocked), if_neg h, State.modifyRM_completes may]

/-- The write check is made for every count. -/
theorem State.doubleShift_stops {e : Stop} (unlocked : s.Unlocked)
    (h : s.checkWrite s.opWidth (s.place rm) = .error e) : s.doubleShift value rm r count = .error e := by
  rw [State.doubleShift, check_passes (State.noLock_eq_ok.mpr unlocked)]
  split
  · exact check_stops h
  · exact State.modifyRM_stops h _

end

section
variable (value : Width → Word → Word → Nat → Word × Bool) {w : Width} {n : Nat} (a b : Word) (s : State)

/-- Below the width: the shifted value, with its flags. -/
theorem doubleShiftOp_of_lt (h : n < w.bits) :
    ∃ f : Flags, f.cf = (value w a b n).2 ∧ f.sf = w.msb (value w a b n).1 ∧ (f.zf = true ↔ (value w a b n).1 = 0) ∧
      f.pf = parity8 (value w a b n).1 ∧ s.flags.KeepsControl f ∧
      doubleShiftOp value w b n a s = ((value w a b n).1, (s.setFlags f).drawn) :=
  ⟨_, rfl, rfl, beq_iff_eq, rfl, s.flags.doubleShift_keepsControl w _ _ _, if_neg (Nat.not_le.mpr h)⟩

/-- From the width on: a free value of it, and free flags. -/
theorem doubleShiftOp_of_le (h : w.bits ≤ n) :
    ∃ (v : Word) (f : Flags), v.toNat < 2 ^ w.bits ∧ s.flags.KeepsControl f ∧
      doubleShiftOp value w b n a s = (v, (s.setFlags f).drawn.drawn) :=
  ⟨_, _, by rw [w.trunc_toNat]; exact Nat.mod_lt _ (Nat.two_pow_pos _), s.flags.undefined_keepsControl _, if_pos h⟩

end

/-- Settles O35: the four forms are `State.doubleShift` of their function and count, and the range of the count picks
the rule. -/
theorem doubleShiftsComplete : Obligations.DoubleShiftsComplete := by
  intro s rm r i8 unlocked q hq
  obtain ⟨count, masked, runs⟩ :
      ∃ count, q.2.2 = count % 32 ∧ exec q.1 s = outcome (s.doubleShift q.2.1 rm r count) := by
    revert q
    simp only [List.forall_mem_cons, List.not_mem_nil, false_imp_iff, implies_true, and_true]
    exact ⟨⟨_, rfl, rfl⟩, ⟨_, s.cl_mod.symm, rfl⟩, ⟨_, rfl, rfl⟩, ⟨_, s.cl_mod.symm, rfl⟩⟩
  rw [masked, runs]
  refine ⟨State.stopsWithCheck_write runs fun e => State.doubleShift_stops unlocked, fun may =>
    ⟨fun zero => ?zero, fun pos below => ?below, fun above => ?above⟩⟩
  case zero => rw [State.doubleShift_zero unlocked may zero, outcome_ok]
  case below =>
    obtain ⟨f, cf, sf, zf, pf, control, op⟩ := doubleShiftOp_of_lt q.2.1 (s.readAt s.opWidth (s.place rm))
      (s.reg s.opWidth r) s below
    exact ⟨f, cf, sf, zf, pf, control, by rw [State.doubleShift_of_ne_zero unlocked may (by omega), op, outcome_ok]⟩
  case above =>
    obtain ⟨v, f, lt, control, op⟩ := doubleShiftOp_of_le q.2.1 (s.readAt s.opWidth (s.place rm)) (s.reg s.opWidth r) s
      above
    have pos : 0 < s.opWidth.bits := by cases s.opWidth <;> decide
    exact ⟨v, f, lt, control, by rw [State.doubleShift_of_ne_zero unlocked may (by omega), op, outcome_ok]⟩

end Sys2Proof.Machine
end

section
/-! OUT and its protection check (rules R96, R97, R300, R301, R304), with the statements about them settled. -/

namespace Sys2Proof.Machine

/-! ### The protection check (rule R304) -/

/-- The modes and levels in which an output asks the permission map are those in which it is not free. -/
theorem State.not_ioFree_iff {s : State} :
    ¬s.IoFree ↔ s.mode = .v86 ∨ (s.mode = .prot ∧ s.flags.iopl.toNat < s.cpl.toNat) := by
  unfold State.IoFree
  cases s.mode <;> simp

theorem State.checkIo_of_ioFree {s : State} (h : s.IoFree) (port n : Nat) : s.checkIo port n = .ok () :=
  if_neg (mt State.not_ioFree_iff.mpr (not_not.mpr h))

theorem State.checkIo_of_not_ioFree {s : State} (h : ¬s.IoFree) (port n : Nat) :
    s.checkIo port n = (do if ← s.ioPermission port n then .ok () else raiseGP0) :=
  if_pos (State.not_ioFree_iff.mp h)

@[simp] theorem State.checkIo_eq_ok {s : State} {port n : Nat} : s.checkIo port n = .ok () ↔ s.MayOutput port n := by
  unfold State.MayOutput
  by_cases h : s.IoFree
  · simp [h, State.checkIo_of_ioFree]
  · rw [State.checkIo_of_not_ioFree h, bind_eq_ok]
    constructor
    · rintro ⟨allowed, permission, passes⟩
      cases allowed with
      | true => exact .inr permission
      | false => cases passes
    · exact fun c => ⟨true, c.resolve_left h, rfl⟩

/-! ### OUT (rules R300, R301) -/

theorem State.out_eq_ok {s t : State} {port : Half} {w : Width} :
    s.out port w = .ok t ↔ s.Unlocked ∧ s.MayOutput port.toNat w.bytes ∧ port.toNat + w.bytes - 1 ≤ 0xFFFF ∧
      t = (s.emit port w (s.reg w .eax)).retire := by
  rw [State.out, check_eq_ok, bind_eq_ok, State.noLock_eq_ok]
  simp only [State.ioWrite_eq_ok, State.checkIo_eq_ok, checkPortRange_eq_ok, Except.ok.injEq]
  constructor
  · rintro ⟨unlocked, u, ⟨may, range, rfl⟩, rfl⟩
    exact ⟨unlocked, may, range, rfl⟩
  · rintro ⟨unlocked, may, range, rfl⟩
    exact ⟨unlocked, _, ⟨may, range, rfl⟩, rfl⟩

/-- Settles O26: each of the four forms is `State.out` of its port and width. -/
theorem outCompletes : Obligations.OutCompletes := by
  intro s i8 unlocked q hq may range
  have runs := exec_of_table (s := s) (fun x => s.out x.1 x.2) rfl hq
  rw [runs, outcome_eq_next, State.out_eq_ok]
  exact ⟨unlocked, may, by omega, rfl⟩

/-! ### The I/O permission map (rule R97) -/

theorem State.backed_of_allRam {s : State} (h : s.cfg.memoryMap = .allRam) (as : List Nat) : s.Backed as :=
  fun a _ => .inl (by simp [State.backing, h])

theorem State.portDenied_eq_false {s : State} {map p : Nat} :
    s.portDenied map p = false ↔ map + p / 8 ≤ s.taskr.limit.toNat ∧
      (s.mem.read (s.phys (s.taskr.base + BitVec.ofNat 32 (map + p / 8)))).getLsbD (p % 8) = false := by
  unfold State.portDenied
  split
  case isTrue beyond => simp [beyond]
  case isFalse within => simp [Nat.le_of_not_lt within]

theorem State.tssPermission_short {s : State} (h : s.taskr.limit.toNat < 0x67) (port n : Nat) :
    s.tssPermission port n = .ok false := if_pos h

/-- With all memory backed, the permission is that no port of the access is denied. -/
theorem State.tssPermission_of_allRam {s : State} (ram : s.cfg.memoryMap = .allRam)
    (reaches : 0x67 ≤ s.taskr.limit.toNat) (port n : Nat) :
    s.tssPermission port n = .ok (((List.range n).map (port + ·)).all fun p =>
      !s.portDenied (loadBytes s.mem (s.linearAddrs (s.taskr.base + 0x66) 2)) p) := by
  have backed := fun as => State.checkBacked_eq_ok.mpr (State.backed_of_allRam ram as)
  simp only [State.tssPermission, Nat.not_lt.mpr reaches, if_false, backed, ok_bind]
  split <;> rfl

/-- The word at a linear address, least significant byte first. -/
theorem State.loadBytes_word (s : State) (base : Word) (k : Nat) :
    loadBytes s.mem (s.linearAddrs (base + BitVec.ofNat 32 k) 2) =
      (s.mem.read (s.phys (base + BitVec.ofNat 32 k))).toNat +
        256 * (s.mem.read (s.phys (base + BitVec.ofNat 32 (k + 1)))).toNat := by
  simp [State.linearAddrs_add, List.range_succ, loadBytes]

/-- Settles O28: the map byte and bit of each port by `State.portDenied`, with nothing left to refuse. -/
theorem ioPermissionMap : Obligations.IoPermissionMap := by
  intro s port n
  refine ⟨fun host => by simp [State.ioPermission, host], fun default ram => ?_⟩
  rw [State.ioPermission_tssMap default]
  refine ⟨fun short => State.tssPermission_short short port n, fun reaches => ?_⟩
  intro byte map
  have word : loadBytes s.mem (s.linearAddrs (s.taskr.base + 0x66) 2) = map := s.loadBytes_word s.taskr.base 0x66
  rw [State.tssPermission_of_allRam ram reaches, word, Except.ok.injEq, Bool.eq_iff_iff, List.all_eq_true,
    decide_eq_true_iff]
  simp only [Bool.not_eq_true', State.portDenied_eq_false]
  rfl

end Sys2Proof.Machine
end

section
/-! RET far to an outer level (rules R406, R407): the tests of its listing in their order and what it completes with,
with the statement about it settled. -/

namespace Sys2Proof.Machine

/-! ### The selectors of the frame -/

section
variable {s : State} {sel : Half} {level : BitVec 2}

theorem State.returnCode_null (h : sel.toNat < 4) : s.returnCode sel level = raiseGP0 := by
  rw [State.returnCode, isNull_iff.mpr h]
  rfl

theorem State.returnStack_null (h : sel.toNat < 4) : s.returnStack sel level = raiseGP0 := by
  rw [State.returnStack, isNull_iff.mpr h]
  rfl

theorem returnCodeFault_eq_none {d : Descriptor}
    (kind : (∃ x, d.rights.kind = .code x false ∧ d.rights.dpl = level) ∨
      ∃ x, d.rights.kind = .code x true ∧ d.rights.dpl.toNat ≤ level.toNat)
    (present : d.rights.present = true) : returnCodeFault sel level (some d) = none := by
  obtain ⟨x, code, dpl⟩ | ⟨x, code, dpl⟩ := kind
  · simp [returnCodeFault, code, dpl, present]
  · simp [returnCodeFault, code, dpl, present]

theorem returnStackFault_eq_none {e : Descriptor} (rpl : rplOf sel = level) (writable : e.rights.writable = true)
    (dpl : e.rights.dpl = level) (present : e.rights.present = true) : returnStackFault sel level (some e) = none := by
  have data : ¬∀ down, e.rights.kind ≠ .data true down := by rw [← Rights.writable_eq_false, writable]; decide
  rw [rplOf] at rpl
  simp only [returnStackFault]
  rw [if_neg (not_or.mpr ⟨not_not.mpr rpl, not_or.mpr ⟨data, not_not.mpr dpl⟩⟩), present]
  rfl

end

/-! ### The listing of rule R406 -/

/-- A far return to an outer level, once it is known to be one. -/
theorem State.retFar_outer {s : State} (unlocked : s.Unlocked) (m : s.mode = .prot) (may : s.MayPop s.opWidth.bytes 2)
    (outer : s.cpl.toNat < (rplOf s.returnSel).toNat) (imm : Nat) : s.retFar imm = s.retFarOuter imm := by
  have notInner : ¬(rplOf s.returnSel).toNat < s.cpl.toNat := by omega
  have notSame : rplOf s.returnSel ≠ s.cpl := fun same => by rw [same] at outer; omega
  rw [State.retFar, check_passes (State.noLock_eq_ok.mpr unlocked), m]
  dsimp only
  rw [check_passes (State.checkPop_eq_ok.mpr may), if_neg notInner, if_neg notSame]

section
variable {s : State} {imm : Nat}

theorem State.retFarOuter_frameOut (outside : s.inLimit .ss (s.stackUp 0) (4 * s.opWidth.bytes + imm) = false) :
    s.retFarOuter imm = raise .stackFault (some 0) := by
  rw [State.retFarOuter, if_pos outside]
  rfl

theorem State.retFarOuter_codeStops
    (inside : s.inLimit .ss (s.stackUp 0) (4 * s.opWidth.bytes + imm) = true) {stop : Stop}
    (code : s.returnCode s.returnSel (rplOf s.returnSel) = .error stop) : s.retFarOuter imm = .error stop := by
  rw [State.retFarOuter, inside, code]
  rfl

variable {d e : Descriptor} (inside : s.inLimit .ss (s.stackUp 0) (4 * s.opWidth.bytes + imm) = true)
  (code : s.returnCode s.returnSel (rplOf s.returnSel) = .ok d)
  (pointer : s.MayPop (2 * s.opWidth.bytes + imm) s.opWidth.bytes)
  (stack : s.MayPop (3 * s.opWidth.bytes + imm) s.opWidth.bytes)

include inside code pointer stack

theorem State.retFarOuter_stackStops {stop : Stop}
    (ssel : s.returnStack ((s.item (3 * s.opWidth.bytes + imm) s.opWidth.bytes).extractLsb' 0 16) (rplOf s.returnSel) =
      .error stop) : s.retFarOuter imm = .error stop := by
  rw [State.retFarOuter, inside, code]
  simp only [Bool.true_eq_false, if_false, ok_bind, State.checkPop_eq_ok.mpr pointer, State.checkPop_eq_ok.mpr stack,
    ssel, error_bind]

variable
  (ssel : s.returnStack ((s.item (3 * s.opWidth.bytes + imm) s.opWidth.bytes).extractLsb' 0 16) (rplOf s.returnSel) =
    .ok e)
  (offset : s.MayPop 0 s.opWidth.bytes)

include ssel offset

theorem State.retFarOuter_beyond (beyond : d.limit.toNat < (s.item 0 s.opWidth.bytes).toNat) :
    s.retFarOuter imm = raiseGP0 := by
  rw [State.retFarOuter, inside, code]
  simp only [Bool.true_eq_false, if_false, ok_bind, State.checkPop_eq_ok.mpr pointer, State.checkPop_eq_ok.mpr stack,
    ssel, State.checkPop_eq_ok.mpr offset, beyond, if_true]
  rfl

theorem State.retFarOuter_completes (within : (s.item 0 s.opWidth.bytes).toNat ≤ d.limit.toNat) {u : State}
    (dropped : (({ (s.setSeg .cs (segmentOf s.returnSel d)).setSeg .ss
      (segmentOf ((s.item (3 * s.opWidth.bytes + imm) s.opWidth.bytes).extractLsb' 0 16) e) with
        cpl := rplOf s.returnSel } : State).setReg s.opWidth .esp
          (s.item (2 * s.opWidth.bytes + imm) s.opWidth.bytes)).dropSegs = .ok u) :
    s.retFarOuter imm = .ok (u.jumpTo (s.item 0 s.opWidth.bytes)) := by
  rw [State.retFarOuter, inside, code]
  simp only [Bool.true_eq_false, if_false, ok_bind, State.checkPop_eq_ok.mpr pointer, State.checkPop_eq_ok.mpr stack,
    ssel, State.checkPop_eq_ok.mpr offset, Nat.not_lt.mpr within, dropped]

end

/-! ### The data segment registers (rule R407) -/

theorem State.dropSegs_eq_ok {s t : State} (h : s.dropSegs = .ok t) :
    ∃ a b c, s.dropSeg .es = .ok a ∧ a.dropSeg .fs = .ok b ∧ b.dropSeg .gs = .ok c ∧ c.dropSeg .ds = .ok t := by
  obtain ⟨a, es, h⟩ := bind_eq_ok.mp h
  obtain ⟨b, fs, h⟩ := bind_eq_ok.mp h
  obtain ⟨c, gs, ds⟩ := bind_eq_ok.mp h
  exact ⟨a, b, c, es, fs, gs, ds⟩

theorem State.dropSeg_null {s : State} {r : SegReg} (h : (s.seg r).valid = false) : s.dropSeg r = .ok s := if_pos h

/-- The new level may keep using the segment register whose selector has this look-up. -/
def State.MayKeep (s : State) (r : SegReg) (d? : Option Descriptor) : Prop :=
  ∃ d, d? = some d ∧ d.rights.readable = true ∧
    ((∃ x, d.rights.kind = .code x true) ∨
      ((s.seg r).sel.toNat % 4 ≤ d.rights.dpl.toNat ∧ s.cpl.toNat ≤ d.rights.dpl.toNat))

theorem State.dropSeg_kept {s : State} {r : SegReg} {d? : Option Descriptor} (used : (s.seg r).valid = true)
    (read : s.readDescriptor (s.seg r).sel = .ok d?) (keep : s.MayKeep r d?) : s.dropSeg r = .ok s := by
  obtain ⟨d, rfl, readable, level⟩ := keep
  rw [State.dropSeg, if_neg (by simp [used]), read, ok_bind]
  simp [readable, Descriptor.dataPrivOK_eq_true.mpr level]

theorem State.dropSeg_nulled {s : State} {r : SegReg} {d? : Option Descriptor} (used : (s.seg r).valid = true)
    (read : s.readDescriptor (s.seg r).sel = .ok d?) (drop : ¬s.MayKeep r d?) :
    s.dropSeg r = .ok (s.setSeg r { s.seg r with sel := 0, valid := false }) := by
  rw [State.dropSeg, if_neg (by simp [used]), read, ok_bind]
  cases d? with
  | none => rfl
  | some d =>
    dsimp only
    rw [if_neg]
    rw [Bool.and_eq_true, Descriptor.dataPrivOK_eq_true]
    exact fun c => drop ⟨d, rfl, c⟩

/-! ### The statement -/

/-- The two forms of a far return to an outer level, once it is known to be one. -/
theorem exec_retFar_outer {s : State} {imm : BitVec 16} (unlocked : s.Unlocked) (m : s.mode = .prot)
    (may : s.MayPop s.opWidth.bytes 2) (outer : s.cpl.toNat < (rplOf s.returnSel).toNat) {q : Instr × Nat}
    (hq : q ∈ ([(.retFar, 0), (.retFarImm imm, imm.toNat)] : List (Instr × Nat))) :
    exec q.1 s = outcome (s.retFarOuter q.2) :=
  (exec_of_table (fun n => s.retFar n) rfl hq).trans (congrArg outcome (State.retFar_outer unlocked m may outer q.2))

open State in
/-- Settles O38: each test by the lemma of its place in the listing, and what is left passes them all. -/
theorem farReturnOuterLevelCompletes : Obligations.FarReturnOuterLevelCompletes := by
  refine ⟨?completes, fun s t => dropSegs_eq_ok, fun s r d? => ⟨dropSeg_null, fun used read => ?drop⟩, ?stops⟩
  case completes =>
    intro s imm d e u unlocked m outer notNull read kind present within q hq k ssel level inside may offset pointer
      stack sNotNull sRead sRpl sWritable sDpl sPresent dropped
    have code := (returnCode_eq notNull read).2 d rfl (returnCodeFault_eq_none kind present)
    have stackOk := (returnStack_eq sNotNull sRead).2 e rfl (returnStackFault_eq_none sRpl sWritable sDpl sPresent)
    rw [exec_retFar_outer unlocked m may outer hq,
      retFarOuter_completes inside code pointer stack stackOk offset within dropped, outcome_ok]
  case drop =>
    split
    case isTrue keep => exact dropSeg_kept used read keep
    case isFalse drop => exact dropSeg_nulled used read drop
  case stops =>
    intro s imm d? e? unlocked m may outer q hq k sel level ssel
    rw [exec_retFar_outer unlocked m may outer hq]
    refine ⟨fun outside => ?frameOut, fun inside => ⟨fun null => ?codeNull, fun notNull read =>
      ⟨fun f fault => ?codeFault,
      fun d found noFault pointer stack =>
        have code := (returnCode_eq notNull read).2 d found noFault
        ⟨fun sNull => ?stackNull, fun sNotNull sRead => ⟨fun f sFault => ?stackFault,
          fun sNoFault offset beyond => ?beyond⟩⟩⟩⟩⟩
    case frameOut => rw [retFarOuter_frameOut outside]; rfl
    case codeNull => rw [retFarOuter_codeStops inside (returnCode_null null)]; rfl
    case codeFault => rw [retFarOuter_codeStops inside ((returnCode_eq notNull read).1 f fault)]; rfl
    case stackNull => rw [retFarOuter_stackStops inside code pointer stack (returnStack_null sNull)]; rfl
    case stackFault =>
      rw [retFarOuter_stackStops inside code pointer stack ((returnStack_eq sNotNull sRead).1 f sFault)]
      rfl
    case beyond =>
      obtain ⟨e, rfl⟩ : ∃ e, e? = some e := by
        cases e? with
        | none => cases sNoFault
        | some e => exact ⟨e, rfl⟩
      have stackOk := (returnStack_eq sNotNull sRead).2 e rfl sNoFault
      rw [retFarOuter_beyond inside code pointer stack stackOk offset beyond]
      rfl

end Sys2Proof.Machine
end

section
/-! LOCK (rules R92, R115, R270): an instruction that does not accept it is refused before anything else, with the
statement about every instruction settled. -/

namespace Sys2Proof.Machine

theorem State.noLock_stops {s : State} (h : s.ctx.lock = true) : s.noLock = .error (.refused .lockNotAccepted) := by
  simp [State.noLock, h, refuse]

/-- An instruction that begins by accepting no LOCK is refused under one. -/
theorem State.noLock_refuses {s : State} (h : s.ctx.lock = true) {rest : M State} :
    outcome (do s.noLock; rest) = .refused .lockNotAccepted :=
  outcome_eq_refused.mpr (check_stops (State.noLock_stops h))

open State in
/-- Settles O49: every instruction but the bytes before one begins with `State.noLock`, those that accept LOCK before
memory when their operand is a register, and LOOP from the state with its count already down. -/
theorem lockIsRefusedElsewhere : Obligations.LockIsRefusedElsewhere := by
  intro i s h notPrefix notAccepted
  cases i with
  | segEs | segCs | segSs | segDs | segFs | segGs | opsize | addrsize | lock | repne | rep => cases notPrefix
  | orRm8R8 rm | orRmvRv rm | orRm8Imm8 rm | orRmvImmv rm | orRmvImm8 rm
  | sbbRm8R8 rm | sbbRmvRv rm | sbbRm8Imm8 rm | sbbRmvImmv rm | sbbRmvImm8 rm
  | subRm8R8 rm | subRmvRv rm | subRm8Imm8 rm | subRmvImmv rm | subRmvImm8 rm
  | xorRm8R8 rm | xorRmvRv rm | xorRm8Imm8 rm | xorRmvImmv rm | xorRmvImm8 rm
  | notRm8 rm | notRmv rm | negRm8 rm | negRmv rm | xchgRm8R8 rm | xchgRmvRv rm =>
    cases rm with
    | mem m => cases notAccepted
    | reg r => exact noLock_refuses h
  | loop | loope | loopne => exact noLock_refuses (s := s.countDown) ((congrArg Ctx.lock (s.setReg_ctx ..)).trans h)
  | movR32Tr => exact noLock_refuses (s := s.drawn) h
  | _ => exact noLock_refuses h

end Sys2Proof.Machine
end

section
/-! Decoding what the encoder writes (rules R110 to R138): each field, each addressing form and each form of an opcode
map read back, with the statements about them settled. -/

namespace Sys2Proof

/-! ### Field codes (rules R20, R122, R126, R129, R130, R132) -/

@[simp] theorem Reg.ofCode_code (r : Reg) : Reg.ofCode r.code = r := by cases r <;> rfl
@[simp] theorem SegReg.ofCode?_code (sr : SegReg) : SegReg.ofCode? sr.code = some sr := by cases sr <;> rfl
@[simp] theorem CReg.ofCode?_code (c : CReg) : CReg.ofCode? c.code = some c := by cases c <;> rfl
@[simp] theorem DReg.ofCode?_code (d : DReg) : DReg.ofCode? d.code = some d := by cases d <;> rfl
@[simp] theorem TReg.ofCode?_code (t : TReg) : TReg.ofCode? t.code = some t := by cases t <;> rfl
@[simp] theorem Scale.ofCode_code (sc : Scale) : Scale.ofCode sc.code = sc := by cases sc <;> rfl
@[simp] theorem Base16.ofCode_code (b : Base16) : Base16.ofCode b.code = b := by cases b <;> rfl

@[simp] theorem Reg.code_eq_four {r : Reg} : r.code = 4#3 ↔ r = .esp := by cases r <;> decide
@[simp] theorem Reg.code_eq_five {r : Reg} : r.code = 5#3 ↔ r = .ebp := by cases r <;> decide
@[simp] theorem Base16.code_eq_six {b : Base16} : b.code = 6#3 ↔ b = .bp := by cases b <;> decide

/-! ### Immediates, displacements and offsets (rules R73, R136 to R138) -/

@[simp] theorem Dec.ok_bind {α β : Type} (a : α) (f : α → Dec β) : ((Except.ok a : Dec α) >>= f) = f a := rfl

@[simp] theorem take8_cons (v : BitVec 8) (rest : List Byte) : take8 (v :: rest) = .ok (v, rest) := rfl

@[simp] theorem take16_enc16 (v : BitVec 16) (rest : List Byte) : take16 (enc16 v ++ rest) = .ok (v, rest) := by
  have joined : v.extractLsb' 8 8 ++ v.extractLsb' 0 8 = v :=
    (BitVec.extractLsb'_append_extractLsb'_eq_extractLsb' rfl).trans BitVec.extractLsb'_eq_self
  exact congrArg (fun x => Except.ok (x, rest)) joined

@[simp] theorem take32_enc32 (v : BitVec 32) (rest : List Byte) : take32 (enc32 v ++ rest) = .ok (v, rest) := by
  have joined : v.extractLsb' 24 8 ++ v.extractLsb' 16 8 ++ v.extractLsb' 8 8 ++ v.extractLsb' 0 8 = v := by
    ext i; grind
  exact congrArg (fun x => Except.ok (x, rest)) joined

/-- A field of 2 or 4 bytes gives back a value that fits it (rules R136 to R138). -/
theorem takeSized_encSized {sz : Size} {v : BitVec 32} (h : fits sz v = true) (rest : List Byte) :
    takeSized sz (encSized sz v ++ rest) = .ok (v, rest) := by
  cases sz with
  | s16 =>
    have low : (v.setWidth 16).setWidth 32 = v := by
      have : v.toNat < 2 ^ 16 := of_decide_eq_true h
      apply BitVec.eq_of_toNat_eq
      rw [BitVec.toNat_setWidth_of_le (by decide), BitVec.toNat_setWidth, Nat.mod_eq_of_lt this]
    simp [takeSized, encSized, low]
  | s32 => exact take32_enc32 v rest

/-! ### The addressing-mode bytes (rules R110, R130 to R134) -/

@[simp] theorem splitModRM_modRM (md : BitVec 2) (reg rm : BitVec 3) :
    splitModRM (modRM md reg rm) = (md, reg, rm) := by
  revert md reg rm; decide

/-- With 16-bit addressing, the register and the displacement of a base form read back (rule R130). -/
theorem decodeMem16_base16 {b : Base16} {d : Disp16} (h : b ≠ .bp ∨ d ≠ .none) (rest : List Byte) :
    decodeMem16 (encDisp16 d).1 b.code ((encDisp16 d).2 ++ rest) = .ok (.base16 b d, rest) := by
  cases d with
  | none => simp_all [decodeMem16, encDisp16]
  | d8 d => simp [decodeMem16, encDisp16]
  | d16 d => simp [decodeMem16, encDisp16]

/-- The displacement that mod selects with 32-bit addressing reads back (rules R131, R133). -/
@[simp] theorem decodeDisp32_encDisp32 (d : Disp32) (rest : List Byte) :
    decodeDisp32 (encDisp32 d).1 ((encDisp32 d).2 ++ rest) = .ok (d, rest) := by
  cases d <;> simp [decodeDisp32, encDisp32]

@[simp] theorem encDisp32_eq_zero {d : Disp32} : (encDisp32 d).1 = 0#2 ↔ d = .none := by cases d <;> simp [encDisp32]

theorem encDisp16_ne_three (d : Disp16) : (encDisp16 d).1 ≠ 3#2 := by cases d <;> simp [encDisp16]

theorem encDisp32_ne_three (d : Disp32) : (encDisp32 d).1 ≠ 3#2 := by cases d <;> simp [encDisp32]

/-- A scale and an index that exist together read back (rule R132). -/
theorem decodeIndex_encIndex {sc : Scale} {index : Option Reg} (h : indexWf sc index = true) :
    decodeIndex sc.code (encIndex index) = .ok index := by
  cases index with
  | none =>
    obtain rfl : sc = .x1 := by simpa [indexWf] using h
    rfl
  | some r =>
    have : r ≠ .esp := by simpa [indexWf] using h
    simp [decodeIndex, encIndex, this]

/-- An s-i-b byte with a base register and its displacement read back (rules R132, R133). -/
theorem decodeSib_sib {sc : Scale} {index : Option Reg} {b : Reg} {d : Disp32} (hx : indexWf sc index = true)
    (hb : b ≠ .ebp ∨ d ≠ .none) (rest : List Byte) :
    decodeSib (encDisp32 d).1 (modRM sc.code (encIndex index) b.code :: (encDisp32 d).2 ++ rest) =
      .ok (.sib sc index b d, rest) := by
  have hasBase : ¬(d = .none ∧ b = .ebp) := by tauto
  simp [decodeSib, decodeIndex_encIndex hx, hasBase]

/-- An s-i-b byte without base register and its offset read back (rules R132, R133). -/
theorem decodeSib_sibNoBase {sc : Scale} {index : Option Reg} (hx : indexWf sc index = true) (off : BitVec 32)
    (rest : List Byte) :
    decodeSib 0 (modRM sc.code (encIndex index) 5 :: enc32 off ++ rest) = .ok (.sibNoBase sc index off, rest) := by
  simp [decodeSib, decodeIndex_encIndex hx]

/-- With 32-bit addressing, the register and the displacement of a base form read back (rules R131, R133). -/
theorem decodeMem32_base32 {b : Reg} {d : Disp32} (hs : b ≠ .esp) (hb : b ≠ .ebp ∨ d ≠ .none) (rest : List Byte) :
    decodeMem32 (encDisp32 d).1 b.code ((encDisp32 d).2 ++ rest) = .ok (.base32 b d, rest) := by
  have hasBase : ¬(d = .none ∧ b = .ebp) := by tauto
  simp [decodeMem32, hs, hasBase]

/-- A memory operand with mod other than 11, under 16-bit addressing (rule R130). -/
theorem decodeRM_s16 {md : BitVec 2} (h : md ≠ 3#2) (reg rm : BitVec 3) (bs : List Byte) :
    decodeRM .s16 (modRM md reg rm :: bs) = (do let (m, rest) ← decodeMem16 md rm bs; .ok ((.mem m, reg), rest)) := by
  simp [decodeRM, h]

/-- A memory operand with mod other than 11, under 32-bit addressing (rules R131, R133). -/
theorem decodeRM_s32 {md : BitVec 2} (h : md ≠ 3#2) (reg rm : BitVec 3) (bs : List Byte) :
    decodeRM .s32 (modRM md reg rm :: bs) = (do let (m, rest) ← decodeMem32 md rm bs; .ok ((.mem m, reg), rest)) := by
  simp [decodeRM, h]

/-- The operand and the reg field read back from the addressing-mode bytes (rules R130 to R134). -/
theorem decodeRM_encRM {a : Size} {rm : RM} (h : rm.wf a = true) (reg : BitVec 3) (rest : List Byte) :
    decodeRM a (encRM reg rm ++ rest) = .ok ((rm, reg), rest) := by
  cases rm with
  | reg r => simp [decodeRM, encRM]
  | mem m =>
    cases m with
    | direct16 off =>
      obtain rfl : a = .s16 := by simpa [RM.wf, Mem.wf] using h
      simp [encRM, decodeRM_s16, decodeMem16]
    | base16 b d =>
      obtain ⟨rfl, hb⟩ : a = .s16 ∧ (b ≠ .bp ∨ d ≠ .none) := by simpa [RM.wf, Mem.wf] using h
      simp [encRM, decodeRM_s16 (encDisp16_ne_three d), decodeMem16_base16 hb]
    | direct32 off =>
      obtain rfl : a = .s32 := by simpa [RM.wf, Mem.wf] using h
      simp [encRM, decodeRM_s32, decodeMem32]
    | base32 b d =>
      obtain ⟨⟨rfl, hs⟩, hb⟩ : (a = .s32 ∧ b ≠ .esp) ∧ (b ≠ .ebp ∨ d ≠ .none) := by simpa [RM.wf, Mem.wf] using h
      simp [encRM, decodeRM_s32 (encDisp32_ne_three d), decodeMem32_base32 hs hb]
    | sib sc index b d =>
      obtain ⟨⟨rfl, hx⟩, hb⟩ : (a = .s32 ∧ indexWf sc index = true) ∧ (b ≠ .ebp ∨ d ≠ .none) := by
        simpa [RM.wf, Mem.wf] using h
      have sib := decodeSib_sib hx hb rest
      simp_all [encRM, decodeRM_s32 (encDisp32_ne_three d), decodeMem32]
    | sibNoBase sc index off =>
      obtain ⟨rfl, hx⟩ : a = .s32 ∧ indexWf sc index = true := by simpa [RM.wf, Mem.wf] using h
      have sib := decodeSib_sibNoBase hx off rest
      simp_all [encRM, decodeRM_s32, decodeMem32]

/-! ### The forms of the opcode maps (rules R134 to R145) -/

section
variable {o a : Size} {rm : RM} {m : Mem} {v : BitVec 32} {rest : List Byte}

theorem decodeForm_rm {f : RM → Instr} {nnn : BitVec 3} (h : rm.wf a = true) :
    decodeForm o a (.rm f) (encRM nnn rm ++ rest) = .ok (f rm, rest) := by
  simp [decodeForm, decodeRM_encRM h]

theorem decodeForm_mem {f : Mem → Instr} {nnn : BitVec 3} (h : m.wf a = true) :
    decodeForm o a (.mem f) (encRM nnn (.mem m) ++ rest) = .ok (f m, rest) := by
  simp [decodeForm, decodeRM_encRM (rm := .mem m) h]

theorem decodeForm_rmReg {f : RM → Reg → Instr} {r : Reg} (h : rm.wf a = true) :
    decodeForm o a (.rmReg f) (encRM r.code rm ++ rest) = .ok (f rm r, rest) := by
  simp [decodeForm, decodeRM_encRM h]

theorem decodeForm_memReg {f : Mem → Reg → Instr} {r : Reg} (h : m.wf a = true) :
    decodeForm o a (.memReg f) (encRM r.code (.mem m) ++ rest) = .ok (f m r, rest) := by
  simp [decodeForm, decodeRM_encRM (rm := .mem m) h]

theorem decodeForm_rmImm8 {f : RM → BitVec 8 → Instr} {nnn : BitVec 3} {imm : BitVec 8} (h : rm.wf a = true) :
    decodeForm o a (.rmImm8 f) (encRM nnn rm ++ [imm] ++ rest) = .ok (f rm imm, rest) := by
  simp [decodeForm, decodeRM_encRM h]

theorem decodeForm_rmImmV {f : RM → BitVec 32 → Instr} {nnn : BitVec 3} (h : (rm.wf a && fits o v) = true) :
    decodeForm o a (.rmImmV f) (encRM nnn rm ++ encSized o v ++ rest) = .ok (f rm v, rest) := by
  obtain ⟨operand, value⟩ := Bool.and_eq_true_iff.mp h
  simp [decodeForm, decodeRM_encRM operand, takeSized_encSized value]

theorem decodeForm_rmRegImm8 {f : RM → Reg → BitVec 8 → Instr} {r : Reg} {imm : BitVec 8} (h : rm.wf a = true) :
    decodeForm o a (.rmRegImm8 f) (encRM r.code rm ++ [imm] ++ rest) = .ok (f rm r imm, rest) := by
  simp [decodeForm, decodeRM_encRM h]

theorem decodeForm_rmRegImmV {f : RM → Reg → BitVec 32 → Instr} {r : Reg} (h : (rm.wf a && fits o v) = true) :
    decodeForm o a (.rmRegImmV f) (encRM r.code rm ++ encSized o v ++ rest) = .ok (f rm r v, rest) := by
  obtain ⟨operand, value⟩ := Bool.and_eq_true_iff.mp h
  simp [decodeForm, decodeRM_encRM operand, takeSized_encSized value]

theorem decodeForm_rmSreg {f : RM → SegReg → Instr} {sr : SegReg} (h : rm.wf a = true) :
    decodeForm o a (.rmSreg f) (encRM sr.code rm ++ rest) = .ok (f rm sr, rest) := by
  simp [decodeForm, decodeRM_encRM h]

theorem decodeForm_sregRm {f : RM → SegReg → Instr} {sr : SegReg} (h : (rm.wf a && sr != .cs) = true) :
    decodeForm o a (.sregRm f) (encRM sr.code rm ++ rest) = .ok (f rm sr, rest) := by
  obtain ⟨operand, notCs⟩ := Bool.and_eq_true_iff.mp h
  cases sr with
  | cs => cases notCs
  | es | ss | ds | fs | gs => simp [decodeForm, decodeRM_encRM operand]

theorem decodeForm_imm16 {f : BitVec 16 → Instr} {imm : BitVec 16} :
    decodeForm o a (.imm16 f) (enc16 imm ++ rest) = .ok (f imm, rest) := by
  simp [decodeForm]

theorem decodeForm_immV {f : BitVec 32 → Instr} (h : fits o v = true) :
    decodeForm o a (.immV f) (encSized o v ++ rest) = .ok (f v, rest) := by
  simp [decodeForm, takeSized_encSized h]

theorem decodeForm_relV {f : BitVec 32 → Instr} (h : fits o v = true) :
    decodeForm o a (.relV f) (encSized o v ++ rest) = .ok (f v, rest) := by
  simp [decodeForm, takeSized_encSized h]

theorem decodeForm_moffs {f : BitVec 32 → Instr} (h : fits a v = true) :
    decodeForm o a (.moffs f) (encSized a v ++ rest) = .ok (f v, rest) := by
  simp [decodeForm, takeSized_encSized h]

theorem decodeForm_imm16imm8 {f : BitVec 16 → BitVec 8 → Instr} {imm : BitVec 16} {level : BitVec 8} :
    decodeForm o a (.imm16imm8 f) (enc16 imm ++ [level] ++ rest) = .ok (f imm level, rest) := by
  simp [decodeForm]

theorem decodeForm_ptr {f : BitVec 32 → BitVec 16 → Instr} {sel : BitVec 16} (h : fits o v = true) :
    decodeForm o a (.ptr f) (encSized o v ++ enc16 sel ++ rest) = .ok (f v sel, rest) := by
  simp [decodeForm, takeSized_encSized h]

theorem decodeForm_creg {f : CReg → Reg → Instr} {c : CReg} {r : Reg} :
    decodeForm o a (.creg f) (encRM c.code (.reg r) ++ rest) = .ok (f c r, rest) := by
  simp [decodeForm, decodeRM_encRM (rm := .reg r) rfl]

theorem decodeForm_dreg {f : DReg → Reg → Instr} {d : DReg} {r : Reg} :
    decodeForm o a (.dreg f) (encRM d.code (.reg r) ++ rest) = .ok (f d r, rest) := by
  simp [decodeForm, decodeRM_encRM (rm := .reg r) rfl]

theorem decodeForm_treg {f : TReg → Reg → Instr} {t : TReg} {r : Reg} :
    decodeForm o a (.treg f) (encRM t.code (.reg r) ++ rest) = .ok (f t r, rest) := by
  simp [decodeForm, decodeRM_encRM (rm := .reg r) rfl]

theorem decodeForm_esc {f : BitVec 3 → RM → Instr} {ext : BitVec 3} (h : rm.wf a = true) :
    decodeForm o a (.esc f) (encRM ext rm ++ rest) = .ok (f ext rm, rest) := by
  simp [decodeForm, decodeRM_encRM h]

/-! ### The cells of the opcode maps (rules R139 to R142) -/

/-- The form in a cell of an opcode map, that of a group by the nnn field of the byte after it (rule R142). -/
def Entry.form? (nnn : BitVec 3) : Entry → Option Form
  | .form f => some f
  | .group fs => some (fs.getD nnn.toNat .reserved)
  | .escape => none
  | .pfx _ => none

/-- The reg field stands in the first byte of an encoded operand (rule R110). -/
theorem encRM_reg (nnn : BitVec 3) (rm : RM) : ∃ b bs, encRM nnn rm = b :: bs ∧ (splitModRM b).2.1 = nnn := by
  cases rm with
  | reg r => exact ⟨_, _, rfl, by simp⟩
  | mem m => cases m <;> exact ⟨_, _, rfl, by simp⟩

/-- A cell whose instruction has a mod r/m byte reads the form that the byte's nnn field selects (rule R142). -/
theorem decodeCell_encRM {e : Entry} {nnn : BitVec 3} {f : Form} (cell : e.form? nnn = some f) :
    decodeCell o a e (encRM nnn rm ++ rest) = decodeForm o a f (encRM nnn rm ++ rest) := by
  cases e with
  | form g => cases cell; rfl
  | group fs =>
    cases cell
    obtain ⟨b, bs, bytes, reg⟩ := encRM_reg nnn rm
    rw [bytes, ← reg]; rfl
  | escape => cases cell
  | pfx i => cases cell

/-- A byte that is not 0F selects a cell of the one-byte map (rules R139, R140). -/
theorem decode_oneByte {op : Byte} (h : mapCell oneByteMap op ≠ .escape) :
    decode o a (op :: rest) = decodeCell o a (mapCell oneByteMap op) rest := by
  cases cell : mapCell oneByteMap op with
  | escape => exact absurd cell h
  | form f | group fs | pfx i => simp [decode, cell]

/-- An opcode byte without group reads its form (rule R140). -/
theorem decode_form {op : Byte} {f : Form} (cell : mapCell oneByteMap op = .form f) :
    decode o a (op :: rest) = decodeForm o a f rest := by
  rw [decode_oneByte (by simp [cell]), cell]; rfl

/-- An opcode byte with a mod r/m operand after it (rules R140, R142). -/
theorem decode_encE {op : Byte} {nnn : BitVec 3} {f : Form} (cell : (mapCell oneByteMap op).form? nnn = some f) :
    decode o a (encE op nnn rm ++ rest) = decodeForm o a f (encRM nnn rm ++ rest) := by
  rw [← decodeCell_encRM cell]
  exact decode_oneByte fun escape => by rw [escape] at cell; cases cell

/-- An opcode byte with a mod r/m operand and an immediate byte after it (rules R136, R140, R142). -/
theorem decode_encEImm8 {op : Byte} {nnn : BitVec 3} {f : Form} {imm : BitVec 8}
    (cell : (mapCell oneByteMap op).form? nnn = some f) :
    decode o a (encEImm8 op nnn rm imm ++ rest) = decodeForm o a f (encRM nnn rm ++ [imm] ++ rest) := by
  rw [List.append_assoc, ← decode_encE cell, encEImm8, encE, List.cons_append, List.append_assoc]; rfl

/-- An opcode byte with a mod r/m operand and an immediate of the operand size after it (rules R136, R140, R142). -/
theorem decode_encEImmV {op : Byte} {nnn : BitVec 3} {f : Form} (cell : (mapCell oneByteMap op).form? nnn = some f) :
    decode o a (encEImmV o op nnn rm v ++ rest) = decodeForm o a f (encRM nnn rm ++ encSized o v ++ rest) := by
  rw [List.append_assoc, ← decode_encE cell, encEImmV, encE, List.cons_append, List.append_assoc]; rfl

/-- 0F and an opcode byte with a mod r/m operand after it (rules R141, R142). -/
theorem decode_escape_encE {op : Byte} {nnn : BitVec 3} {f : Form}
    (cell : (mapCell twoByteMap op).form? nnn = some f) :
    decode o a (0x0F :: encE op nnn rm ++ rest) = decodeForm o a f (encRM nnn rm ++ rest) :=
  decodeCell_encRM cell

/-- 0F and an opcode byte with a mod r/m operand and an immediate byte after it (rules R136, R141, R142). -/
theorem decode_escape_encEImm8 {op : Byte} {nnn : BitVec 3} {f : Form} {imm : BitVec 8}
    (cell : (mapCell twoByteMap op).form? nnn = some f) :
    decode o a (0x0F :: encEImm8 op nnn rm imm ++ rest) = decodeForm o a f (encRM nnn rm ++ [imm] ++ rest) := by
  rw [List.append_assoc, ← decode_escape_encE cell, encEImm8, encE]
  simp

/-- A conditional jump reads back from the short and from the near row (rules R128, R138). -/
theorem decode_encJcc {cc : Byte} {rel : Rel} {f : Rel → Instr} (h : rel.wf o = true)
    (short : mapCell oneByteMap (0x70 + cc) = .form (.rel8 fun d => f (.short d)))
    (near : mapCell twoByteMap (0x80 + cc) = .form (.relV fun d => f (.near d))) :
    decode o a (encJcc o cc rel ++ rest) = .ok (f rel, rest) := by
  cases rel with
  | short d => exact decode_form short
  | near d =>
    have field := decodeForm_relV (f := fun d => f (.near d)) (o := o) (a := a) (rest := rest) h
    rw [← field]
    exact congrArg (decodeCell o a · _) near

/-- A shift or rotate reads back from each of the three groups it stands in (rules R142, R360). -/
theorem decode_encShift {w : Byte} {kind : BitVec 3} {n : Count} {f : RM → Count → Instr} (h : rm.wf a = true)
    (one : (mapCell oneByteMap (0xD0 + w)).form? kind = some (.rm fun rm => f rm .one))
    (cl : (mapCell oneByteMap (0xD2 + w)).form? kind = some (.rm fun rm => f rm .cl))
    (imm8 : (mapCell oneByteMap (0xC0 + w)).form? kind = some (.rmImm8 fun rm n => f rm (.imm8 n))) :
    decode o a (encShift w kind rm n ++ rest) = .ok (f rm n, rest) := by
  cases n with
  | one => exact (decode_encE one).trans (decodeForm_rm h)
  | cl => exact (decode_encE cl).trans (decodeForm_rm h)
  | imm8 n => exact (decode_encEImm8 imm8).trans (decodeForm_rmImm8 h)

end

/-! ### The statements -/

/-- The register in the low bits of the opcode (rules R111, R203). -/
theorem mapCell_movRegvImmv (r : Reg) :
    mapCell oneByteMap (0xB8 + r.code.setWidth 8) = .form (.immV (.movRegvImmv r)) := by cases r <;> rfl

/-- D8 to DF hold the coprocessor escape with their low bits (rule R140). -/
theorem form?_esc (low ext : BitVec 3) :
    (mapCell oneByteMap (0xD8 + low.setWidth 8)).form? ext = some (.esc (.esc low)) := by
  obtain ⟨n, bound, rfl⟩ : ∃ n < 8, low = BitVec.ofNat 3 n := ⟨low.toNat, low.isLt, by simp⟩
  interval_cases n <;> rfl

/-- Settles O54: each encoding opens with the bytes of a cell whose form is the instruction's, and every form reads back
the operands written for it. -/
theorem decodeEncode : Obligations.DecodeEncode := by
  intro o a i rest h
  cases i with
  | addRm8R8 | addRmvRv | addR8Rm8 | addRvRmv | orRm8R8 | orRmvRv | orR8Rm8 | orRvRmv | adcRm8R8 | adcRmvRv
  | adcR8Rm8 | adcRvRmv | sbbRm8R8 | sbbRmvRv | sbbR8Rm8 | sbbRvRmv | andRm8R8 | andRmvRv | andR8Rm8 | andRvRmv
  | subRm8R8 | subRmvRv | subR8Rm8 | subRvRmv | xorRm8R8 | xorRmvRv | xorR8Rm8 | xorRvRmv | cmpRm8R8 | cmpRmvRv
  | cmpR8Rm8 | cmpRvRmv | arpl | testRm8R8 | testRmvRv | xchgRm8R8 | xchgRmvRv | movRm8R8 | movRmvRv | movR8Rm8
  | movRvRmv =>
    exact (decode_encE rfl).trans (decodeForm_rmReg h)
  | bound | lea | les | lds => exact (decode_encE rfl).trans (decodeForm_memReg h)
  | popRm | notRm8 | negRm8 | mulRm8 | imulRm8 | divRm8 | idivRm8 | notRmv | negRmv | mulRmv | imulRmv | divRmv
  | idivRmv | incRm8 | decRm8 | incRmv | decRmv | callRmv | jmpRmv | pushRm =>
    exact (decode_encE rfl).trans (decodeForm_rm h)
  | callMem | jmpMem => exact (decode_encE rfl).trans (decodeForm_mem h)
  | movRm16Sreg => exact (decode_encE rfl).trans (decodeForm_rmSreg h)
  | movSregRm16 => exact (decode_encE rfl).trans (decodeForm_sregRm h)
  | esc => exact (decode_encE (form?_esc ..)).trans (decodeForm_esc h)
  | addRm8Imm8 | addRmvImm8 | orRm8Imm8 | orRmvImm8 | adcRm8Imm8 | adcRmvImm8 | sbbRm8Imm8 | sbbRmvImm8
  | andRm8Imm8 | andRmvImm8 | subRm8Imm8 | subRmvImm8 | xorRm8Imm8 | xorRmvImm8 | cmpRm8Imm8 | cmpRmvImm8
  | movRm8Imm8 | testRm8Imm8 =>
    exact (decode_encEImm8 rfl).trans (decodeForm_rmImm8 h)
  | imulRvRmvImm8 => exact (decode_encEImm8 rfl).trans (decodeForm_rmRegImm8 h)
  | addRmvImmv | orRmvImmv | adcRmvImmv | sbbRmvImmv | andRmvImmv | subRmvImmv | xorRmvImmv | cmpRmvImmv
  | movRmvImmv | testRmvImmv =>
    exact (decode_encEImmV rfl).trans (decodeForm_rmImmV h)
  | imulRvRmvImmv => exact (decode_encEImmV rfl).trans (decodeForm_rmRegImmV h)
  | rolRm8 | rolRmv | rorRm8 | rorRmv | rclRm8 | rclRmv | rcrRm8 | rcrRmv | shlRm8 | shlRmv | shrRm8 | shrRmv
  | sarRm8 | sarRmv =>
    exact decode_encShift h rfl rfl rfl
  | jo | jno | jb | jnb | jz | jnz | jbe | jnbe | js | jns | jp | jnp | jl | jnl | jle | jnle =>
    exact decode_encJcc h rfl rfl
  | addAxImmv | orAxImmv | adcAxImmv | sbbAxImmv | andAxImmv | subAxImmv | xorAxImmv | cmpAxImmv | pushImmv
  | testAxImmv =>
    exact (decode_form rfl).trans (decodeForm_immV h)
  | movRegvImmv => exact (decode_form (mapCell_movRegvImmv _)).trans (decodeForm_immV h)
  | callRel | jmpRel => exact (decode_form rfl).trans (decodeForm_relV h)
  | movAlMoffs | movAxMoffs | movMoffsAl | movMoffsAx => exact (decode_form rfl).trans (decodeForm_moffs h)
  | callPtr | jmpPtr => exact (decode_form rfl).trans (decodeForm_ptr h)
  | retNearImm | retFarImm => exact (decode_form rfl).trans decodeForm_imm16
  | enter => exact (decode_form rfl).trans decodeForm_imm16imm8
  | sldt | str | lldt | ltr | verr | verw | sgdt | sidt | smsw | lmsw | seto | setno | setb | setnb | setz | setnz
  | setbe | setnbe | sets | setns | setp | setnp | setl | setnl | setle | setnle =>
    exact (decode_escape_encE rfl).trans (decodeForm_rm h)
  | lgdt | lidt => exact (decode_escape_encE rfl).trans (decodeForm_mem h)
  | lar | lsl | btRmvRv | shldCl | btsRmvRv | shrdCl | imulRvRmv | btrRmvRv | movzx8 | movzx16 | btcRmvRv | bsf
  | bsr | movsx8 | movsx16 =>
    exact (decode_escape_encE rfl).trans (decodeForm_rmReg h)
  | lss | lfs | lgs => exact (decode_escape_encE rfl).trans (decodeForm_memReg h)
  | btRmvImm8 | btsRmvImm8 | btrRmvImm8 | btcRmvImm8 =>
    exact (decode_escape_encEImm8 rfl).trans (decodeForm_rmImm8 h)
  | shldImm8 | shrdImm8 => exact (decode_escape_encEImm8 rfl).trans (decodeForm_rmRegImm8 h)
  | movR32Cr | movCrR32 => exact (decode_escape_encE rfl).trans decodeForm_creg
  | movR32Dr | movDrR32 => exact (decode_escape_encE rfl).trans decodeForm_dreg
  | movR32Tr | movTrR32 => exact (decode_escape_encE rfl).trans decodeForm_treg
  | incReg r | decReg r | pushReg r | popReg r | movReg8Imm8 r => cases r <;> rfl
  | xchgAxReg r =>
    cases r with
    | eax => cases h
    | ecx | edx | ebx | esp | ebp | esi | edi => rfl
  | addAlImm8 | orAlImm8 | adcAlImm8 | sbbAlImm8 | andAlImm8 | subAlImm8 | xorAlImm8 | cmpAlImm8 | pushImm8
  | testAlImm8 | intImm8 | loopne | loope | loop | jcxz | inAlImm8 | inAxImm8 | outImm8Al | outImm8Ax | jmpRel8
  | segEs | segCs | segSs | segDs | segFs | segGs | opsize | addrsize | lock | repne | rep | pushEs | popEs
  | pushCs | pushSs | popSs | pushDs | popDs | daa | das | aaa | aas | aam | aad | pusha | popa | ins8 | insv
  | outs8 | outsv | nop | cbw | cwd | wait | pushf | popf | sahf | lahf | movs8 | movsv | cmps8 | cmpsv | stos8
  | stosv | lods8 | lodsv | scas8 | scasv | retNear | leave | retFar | int3 | into | iret | xlat | inAlDx | inAxDx
  | outDxAl | outDxAx | hlt | cmc | clc | stc | cli | sti | cld | std | clts | pushFs | popFs | pushGs | popGs =>
    rfl

/-- Bytes that are the encoding of an instruction decode to it. -/
theorem decode_of_encode_eq {o a : Size} {i : Instr} {bs : List Byte} (wf : i.wf o a = true)
    (bytes : encode o a i = bs) : decode o a bs = .ok (i, []) := by
  rw [← bytes, ← List.append_nil (encode o a i)]
  exact decodeEncode o a i [] wf

/-- Settles O59: each word is the encoding of its instruction, which exists. -/
theorem decodeOfWrittenWords : Obligations.DecodeOfWrittenWords := by
  and_intros <;> exact decode_of_encode_eq rfl rfl

end Sys2Proof
end

section
/-! Effective addresses (rules R120, R130 to R133): each part of a sum is the residue of its value, and so is the sum,
with the statement about them settled. -/

namespace Sys2Proof.Machine

/-! ### Residues -/

/-- The residue of an integer modulo the width, read as a number. -/
theorem toNat_of_eq_ofInt {w : Nat} {v : BitVec w} {x : Int} (h : v = BitVec.ofInt w x) :
    (v.toNat : Int) = x % 2 ^ w := by
  simp [h, BitVec.toNat_ofInt, Int.emod_nonneg]

theorem eq_ofInt_toNat {w : Nat} (v : BitVec w) : v = BitVec.ofInt w v.toNat := by simp

theorem shiftLeft_eq_ofInt (v : Word) (n : Nat) : v <<< n = BitVec.ofInt 32 (v.toNat * (2 ^ n : Nat)) := by
  rw [← Int.natCast_mul, BitVec.ofInt_natCast]
  apply BitVec.eq_of_toNat_eq
  simp only [BitVec.toNat_shiftLeft, Nat.shiftLeft_eq, BitVec.toNat_ofNat]

/-! ### The parts of an address (rules R130 to R133) -/

theorem State.half_eq_ofInt (s : State) (r : Reg) : s.half r = BitVec.ofInt 16 (s.regs.get r).toNat := by
  apply BitVec.eq_of_toNat_eq
  simp [State.half]

/-- The sum of the base registers of 16-bit addressing as a number (rule R130). -/
def State.base16Sum (s : State) : Base16 → Int
  | .bxsi => (s.regs.get .ebx).toNat + (s.regs.get .esi).toNat
  | .bxdi => (s.regs.get .ebx).toNat + (s.regs.get .edi).toNat
  | .bpsi => (s.regs.get .ebp).toNat + (s.regs.get .esi).toNat
  | .bpdi => (s.regs.get .ebp).toNat + (s.regs.get .edi).toNat
  | .si => (s.regs.get .esi).toNat
  | .di => (s.regs.get .edi).toNat
  | .bp => (s.regs.get .ebp).toNat
  | .bx => (s.regs.get .ebx).toNat

theorem State.base16_eq_ofInt (s : State) (b : Base16) : s.base16 b = BitVec.ofInt 16 (s.base16Sum b) := by
  cases b <;> simp only [State.base16, State.base16Sum, State.half_eq_ofInt, BitVec.ofInt_add]

/-- The displacement of 16-bit addressing as a number (rule R130). -/
def dispValue16 : Disp16 → Int
  | .none => 0
  | .d8 d => d.toInt
  | .d16 d => d.toNat

theorem disp16_eq_ofInt (d : Disp16) : disp16 d = BitVec.ofInt 16 (dispValue16 d) := by
  cases d with
  | none | d8 d => rfl
  | d16 d => exact eq_ofInt_toNat d

/-- The displacement of 32-bit addressing as a number (rules R131, R133). -/
def dispValue32 : Disp32 → Int
  | .none => 0
  | .d8 d => d.toInt
  | .d32 d => d.toNat

theorem disp32_eq_ofInt (d : Disp32) : disp32 d = BitVec.ofInt 32 (dispValue32 d) := by
  cases d with
  | none | d8 d => rfl
  | d32 d => exact eq_ofInt_toNat d

/-- The factor that a scale stands for (rule R132). -/
def scaleFactor : Scale → Int
  | .x1 => 1
  | .x2 => 2
  | .x4 => 4
  | .x8 => 8

/-- The scaled index as a number (rule R132). -/
def State.scaledValue (s : State) (sc : Scale) : Option Reg → Int
  | none => 0
  | some r => (s.regs.get r).toNat * scaleFactor sc

theorem State.scaledIndex_eq_ofInt (s : State) (sc : Scale) (idx : Option Reg) :
    s.scaledIndex sc idx = BitVec.ofInt 32 (s.scaledValue sc idx) := by
  cases idx with
  | none => rfl
  | some r => rw [State.scaledIndex, shiftLeft_eq_ofInt]; cases sc <;> rfl

/-! ### The sums -/

theorem State.effOff_base16 (s : State) (b : Base16) (d : Disp16) :
    ((s.effOff (.base16 b d)).toNat : Int) = (s.base16Sum b + dispValue16 d) % 2 ^ 16 := by
  have sum : s.base16 b + disp16 d = BitVec.ofInt 16 (s.base16Sum b + dispValue16 d) := by
    rw [s.base16_eq_ofInt, disp16_eq_ofInt, BitVec.ofInt_add]
  rw [← toNat_of_eq_ofInt sum, State.effOff, BitVec.toNat_setWidth_of_le (by decide)]

theorem State.effOff_base32 (s : State) (b : Reg) (d : Disp32) :
    ((s.effOff (.base32 b d)).toNat : Int) = ((s.regs.get b).toNat + dispValue32 d) % 2 ^ 32 :=
  toNat_of_eq_ofInt (by rw [State.effOff, disp32_eq_ofInt, BitVec.ofInt_add, ← eq_ofInt_toNat])

theorem State.effOff_sib (s : State) (sc : Scale) (idx : Option Reg) (b : Reg) (d : Disp32) :
    ((s.effOff (.sib sc idx b d)).toNat : Int) =
      ((s.regs.get b).toNat + s.scaledValue sc idx + dispValue32 d) % 2 ^ 32 :=
  toNat_of_eq_ofInt (by
    rw [State.effOff, disp32_eq_ofInt, s.scaledIndex_eq_ofInt, BitVec.ofInt_add, BitVec.ofInt_add, ← eq_ofInt_toNat])

theorem State.effOff_sibNoBase (s : State) (sc : Scale) (idx : Option Reg) (off : BitVec 32) :
    ((s.effOff (.sibNoBase sc idx off)).toNat : Int) = (s.scaledValue sc idx + off.toNat) % 2 ^ 32 :=
  toNat_of_eq_ofInt (by rw [State.effOff, s.scaledIndex_eq_ofInt, BitVec.ofInt_add, ← eq_ofInt_toNat])

theorem segOfBase32_eq (b : Reg) : segOfBase32 b = if b = .ebp ∨ b = .esp then .ss else .ds := by cases b <;> rfl

theorem State.place_mem (s : State) (m : Mem) :
    s.place (.mem m) = .mem (match s.ctx.seg with | some x => x | none => defaultSeg m) (s.effOff m) := by
  unfold State.place State.segOr
  cases s.ctx.seg <;> rfl

/-- Settles O11: the tables list the sum and the segment of each base, and every form is the residue of its sum. -/
theorem effectiveAddresses : Obligations.EffectiveAddresses := by
  intro s d8 d16 d32 sc idx b g scaled
  have scaledIs : scaled = s.scaledValue sc idx := by cases idx <;> rfl
  rw [scaledIs]
  refine ⟨fun q hq => ?base16, rfl, rfl, rfl, rfl, fun q hq => ?base32, s.effOff_sibNoBase .., rfl, s.place_mem⟩
  case base16 =>
    obtain ⟨sum, seg⟩ : q.2.1 = s.base16Sum q.1 ∧ q.2.2 = segOfBase16 q.1 := by
      simp only [List.mem_cons, List.not_mem_nil, or_false] at hq
      rcases hq with rfl | rfl | rfl | rfl | rfl | rfl | rfl | rfl <;> exact ⟨rfl, rfl⟩
    rw [sum, seg]
    refine ⟨?_, s.effOff_base16 .., s.effOff_base16 .., fun d => rfl⟩
    rw [s.effOff_base16, dispValue16, add_zero]
  case base32 =>
    have disp : q.2 = dispValue32 q.1 := by
      simp only [List.mem_cons, List.not_mem_nil, or_false] at hq
      rcases hq with rfl | rfl | rfl <;> rfl
    rw [disp]
    exact ⟨s.effOff_base32 .., s.effOff_sib .., segOfBase32_eq b, segOfBase32_eq b⟩

end Sys2Proof.Machine
end

section
/-! The bytes before an instruction (rules R113 to R120), with the statement about them settled. -/

namespace Sys2Proof.Machine

section
variable {s : State}

/-- A segment override is recorded when it is the first of its group, and refused otherwise (rules R114, R120). -/
theorem State.latchSeg_ends (s : State) (r : SegReg) :
    (s.ctx.seg = none → outcome (s.latchSeg r) = .next (s.latch { s.ctx with seg := some r })) ∧
      (s.ctx.seg ≠ none → outcome (s.latchSeg r) = .refused .duplicatePrefix) := by
  unfold State.latchSeg
  cases s.ctx.seg with
  | none => exact ⟨fun _ => rfl, fun h => absurd rfl h⟩
  | some x => exact ⟨fun h => (by cases h), fun _ => rfl⟩

/-- A byte whose group is free is recorded (rule R114). -/
theorem latchUnless_free {read : Bool} {c : Ctx} (h : read = false) :
    outcome (if read then refuse .duplicatePrefix else .ok (s.latch c)) = .next (s.latch c) := by
  subst h; rfl

/-- A byte whose group has one already is refused (rule R114). -/
theorem latchUnless_taken {read : Bool} {c : Ctx} (h : read = true) :
    outcome (if read then refuse .duplicatePrefix else .ok (s.latch c)) = .refused .duplicatePrefix := by
  subst h; rfl

/-- The two values of a toggled size differ (rules R118, R119). -/
theorem toggleSize_true_ne (sz : Size) : toggleSize true sz ≠ toggleSize false sz := by cases sz <;> decide

/-- The operand-size byte toggles the operand size (rule R118). -/
theorem State.opSize_latch_ne (h : s.ctx.opsz = false) : (s.latch { s.ctx with opsz := true }).opSize ≠ s.opSize := by
  unfold State.opSize
  rw [h]
  exact toggleSize_true_ne s.defaultSize

/-- The address-size byte toggles the address size (rule R119). -/
theorem State.addrSize_latch_ne (h : s.ctx.adsz = false) :
    (s.latch { s.ctx with adsz := true }).addrSize ≠ s.addrSize := by
  unfold State.addrSize
  rw [h]
  exact toggleSize_true_ne s.defaultSize

end

/-- Settles O47: each byte is recorded when its group is free and refused when it is not; LOCK and the repeats ask about
both of their marks. -/
theorem prefixBytesComplete : Obligations.PrefixBytesComplete := by
  refine fun s => ⟨fun q hq => ?segment, fun h => ⟨_, rfl, latchUnless_free h, State.opSize_latch_ne h, rfl, rfl⟩,
    latchUnless_taken, fun h => ⟨_, rfl, latchUnless_free h, State.addrSize_latch_ne h, rfl, rfl⟩, latchUnless_taken,
    fun rep lock => ?free, fun taken i hi => ?taken⟩
  case segment =>
    simp only [List.mem_cons, List.not_mem_nil, or_false] at hq
    rcases hq with rfl | rfl | rfl | rfl | rfl | rfl <;> exact s.latchSeg_ends _
  case free =>
    have group : (s.ctx.rep.isSome || s.ctx.lock) = false := by simp [rep, lock]
    exact ⟨latchUnless_free group, latchUnless_free group, latchUnless_free group⟩
  case taken =>
    have group : (s.ctx.rep.isSome || s.ctx.lock) = true := by simpa [Option.isSome_iff_ne_none] using taken
    simp only [List.mem_cons, List.not_mem_nil, or_false] at hi
    rcases hi with rfl | rfl | rfl <;> exact latchUnless_taken group

end Sys2Proof.Machine
end

section
/-! The fetch and the step (rules R24, R41, R112, R149, R404, R620): the bytes that can be fetched, the bytes that come
before an instruction, and the ends of a step, with the statement about them settled. -/

namespace Sys2Proof.Machine

section
variable {s u : State}

/-! ### The bytes at CS:EIP (rules R24, R112, R149, R404) -/

/-- A byte in reach is the byte of memory at its address when it and the bytes before it can be fetched. -/
theorem State.fetchFrom_getElem? {i n k : Nat} (reach : k < n) (fetched : ∀ j, j ≤ k → s.fetchStop (i + j) = none) :
    (s.fetchFrom i n).1[k]? = some (s.mem.read (s.codeAddr (i + k))) := by
  induction k generalizing i n with
  | zero =>
    obtain ⟨n, rfl⟩ := Nat.exists_eq_succ_of_ne_zero reach.ne'
    have first : s.fetchStop i = none := fetched 0 (Nat.le_refl 0)
    simp [State.fetchFrom, first]
  | succ k ih =>
    obtain ⟨n, rfl⟩ := Nat.exists_eq_succ_of_ne_zero (Nat.ne_zero_of_lt reach)
    have first : s.fetchStop i = none := fetched 0 (Nat.zero_le _)
    have later := ih (i := i + 1) (Nat.lt_of_succ_lt_succ reach) fun j hj => by
      rw [Nat.add_right_comm]; exact fetched (j + 1) (Nat.succ_le_succ hj)
    rw [State.fetchFrom, first, Nat.add_comm k 1, ← Nat.add_assoc]
    simpa [Nat.add_comm 1 k] using later

/-- The first byte that cannot be fetched ends the bytes. -/
theorem State.window_of_stop {stop : Stop} (reach : 0 < s.cfg.maxInstructionLength)
    (first : s.fetchStop 0 = some stop) : s.window = ([], stop) := by
  obtain ⟨n, length⟩ := Nat.exists_eq_succ_of_ne_zero reach.ne'
  rw [State.window, length, State.fetchFrom, first]

theorem State.codeLimit_eq (s : State) :
    s.codeLimit = if s.mode = .prot then s.segs.cs.limit.toNat else 0xFFFF := by
  unfold State.codeLimit
  cases s.mode <;> rfl

theorem State.codeLimit_lt (s : State) : s.codeLimit < 2 ^ 32 := by
  have limit := s.segs.cs.limit.isLt
  rw [s.codeLimit_eq]
  split <;> omega

theorem State.zeroCode_eq (s : State) : s.zeroCode = if s.mode = .real then none else some 0 := by
  unfold State.zeroCode
  cases s.mode <;> rfl

/-- An offset above the code limit cannot be fetched (rules R79, R404). -/
theorem State.fetchStop_of_limit {i : Nat} (h : s.codeLimit < s.codeOffset i) :
    s.fetchStop i = some (.fault s.codeFault) := if_pos h

theorem State.le_codeOffset (s : State) (i : Nat) : s.eip.toNat + i ≤ s.codeOffset i := by
  unfold State.codeOffset
  omega

/-! ### The bytes before an instruction (rules R112, R113) -/

/-- The state after one more byte that comes before an instruction, if it executes. -/
def afterByte (t? : Option State) (p : Byte × Instr) : Option State :=
  t?.bind fun t => match exec p.2 t with | .next v => some v | _ => none

theorem afterByte_eq_some {p : Byte × Instr} {t v : State} : afterByte (some t) p = some v ↔ exec p.2 t = .next v := by
  cases executed : exec p.2 t <;> simp [afterByte, executed]

/-- Once a byte has not executed, none after it does. -/
theorem foldl_afterByte_none (ps : List (Byte × Instr)) : ps.foldl afterByte none = none := by
  induction ps with
  | nil => rfl
  | cons p ps ih => exact ih

/-- Bytes that execute one after the other lead to the bytes after them in the state they leave (rule R112, step 1). -/
theorem runBytes_append {ps : List (Byte × Instr)} {bs : List Byte} {stop : Stop}
    (known : ∀ p ∈ ps, decodePrefix p.1 = some p.2) (run : ps.foldl afterByte (some s) = some u) :
    runBytes exec (ps.map (·.1) ++ bs) stop s = runBytes exec bs stop u := by
  induction ps generalizing s with
  | nil => cases run; rfl
  | cons p ps ih =>
    rw [List.foldl_cons] at run
    cases after : afterByte (some s) p with
    | none => rw [after, foldl_afterByte_none] at run; cases run
    | some t =>
      rw [after] at run
      have executed := afterByte_eq_some.mp after
      have first := known p List.mem_cons_self
      simpa [runBytes, first, executed] using ih (fun q hq => known q (List.mem_cons_of_mem p hq)) run

/-! ### The ends of a step (rules R41, R112, R620) -/

/-- Where a step is possible, it runs the bytes at CS:EIP. -/
theorem step_of_steppable (h : s.unsteppable = none) :
    step s = runBytes exec s.fresh.window.1 s.fresh.window.2 s.fresh := by
  unfold step runInstruction
  rw [h]

/-- A step meets what the first byte meets when that byte cannot be fetched. -/
theorem step_of_stop {stop : Stop} (h : s.unsteppable = none) (reach : 0 < s.cfg.maxInstructionLength)
    (first : s.fresh.fetchStop 0 = some stop) : step s = outcome (.error stop) := by
  rw [step_of_steppable h, State.window_of_stop (s := s.fresh) reach first, runBytes]

/-- A step whose bytes begin with ones that come before an instruction and execute is left with the rest of its bytes
(rule R112). -/
theorem step_eq_runDecoded {ps : List (Byte × Instr)} {b : Byte} {bs : List Byte} (h : s.unsteppable = none)
    (bytes : s.fresh.window.1 = ps.map (·.1) ++ b :: bs) (known : ∀ p ∈ ps, decodePrefix p.1 = some p.2)
    (other : decodePrefix b = none) (run : ps.foldl afterByte (some s.fresh) = some u) :
    step s = runDecoded exec (b :: bs) s.fresh.window.2 u := by
  rw [step_of_steppable h, bytes, runBytes_append known run, runBytes, other]

/-- An interrupt that R41 lets be taken is seen before the next instruction (rules R41, R620). -/
theorem State.takesInterrupt_of (h : (s.nmiPending = true ∧ s.inhibit ≠ .all) ∨
    (s.intrPending = true ∧ s.flags.ifl = true ∧ s.inhibit = .none)) : s.takesInterrupt = true := by
  rcases h with ⟨pending, shadow⟩ | ⟨pending, enabled, shadow⟩
  · simp [State.takesInterrupt, State.mayTakeNmi, pending, shadow]
  · simp [State.takesInterrupt, State.mayTakeIntr, pending, enabled, shadow]

/-- The carry out of EIP puts the next fetch above every code limit (rules R25, R404; D21). -/
theorem State.retireWith_fetchStop {i : Inhibit} (h : 2 ^ 32 ≤ s.eip.toNat + s.ctx.len) :
    (s.retireWith i).fresh.fetchStop 0 = some (.fault s.codeFault) := by
  have carry : (s.retireWith i).fresh.eipCarry = true := decide_eq_true h
  have limit := (s.retireWith i).fresh.codeLimit_lt
  refine State.fetchStop_of_limit (lt_of_lt_of_le limit ?_)
  rw [State.codeOffset, carry, if_pos rfl]
  omega

end

/-- Settles O58: the bytes before the instruction by induction on them, then the one instruction the rest decodes to;
the window byte by byte; and the three grounds on which nothing runs. -/
theorem stepRunsTheDecodedInstruction : Obligations.StepRunsTheDecodedInstruction := by
  refine ⟨fun s u ps b bs steppable bytes known other run => ?decoded, fun s k reach fetched => ?byte,
    fun s k above => ?limit, fun s i carry steppable reach => ?carry, fun s trap paging breakpoints taken => ?interrupt⟩
  case decoded =>
    have rest := step_eq_runDecoded steppable bytes known other run
    constructor
    · intro i rest' decoded
      rw [rest, runDecoded, decoded]; rfl
    · intro why rejected
      rw [rest, runDecoded, rejected]
  case byte =>
    have found := State.fetchFrom_getElem? (i := 0) reach (by simpa using fetched)
    rw [Nat.zero_add] at found
    exact found
  case limit =>
    rw [← s.codeLimit_eq] at above
    rw [State.fetchStop_of_limit (lt_of_lt_of_le above (s.le_codeOffset k)), State.codeFault, s.zeroCode_eq]
  case carry =>
    rw [step_of_stop steppable reach (State.retireWith_fetchStop carry), ← s.zeroCode_eq]; rfl
  case interrupt =>
    unfold step runInstruction State.unsteppable
    simp [trap, paging, breakpoints, State.takesInterrupt_of taken]

end Sys2Proof.Machine
end

section
/-! MOV, MOVSX, MOVZX, SMSW and POP of segment registers (40_mov.md; rules R326, R464): what each form completes with,
and which of its checks stops it, with the statements about them settled. -/

namespace Sys2Proof.Machine

/-! ### MOV of general operands (rules R201 to R204) -/

section
variable {s : State} {w : Width} {rm : RM} {r : Reg} {v off : Word}

theorem State.movToRM_completes (unlocked : s.Unlocked) (may : s.MayWrite w (s.place rm)) (v : Word) :
    outcome (s.movToRM w rm v) = .next ((s.place rm).finish w (v, s)) :=
  outcome_eq_next.mpr (State.movToRM_eq_ok.mpr ⟨unlocked, may, rfl⟩)

theorem State.movFromRM_completes {src : Width} (unlocked : s.Unlocked) (may : s.MayRead src (s.place rm))
    (f : Word → Word) :
    outcome (s.movFromRM src w rm r f) = .next ((Place.reg r).finish w (f (s.readAt src (s.place rm)), s)) :=
  outcome_eq_next.mpr (State.movFromRM_eq_ok.mpr ⟨unlocked, may, rfl⟩)

theorem State.movAccMoffs_completes (unlocked : s.Unlocked) (may : s.MayRead w (.mem (s.segOr .ds) off)) :
    outcome (s.movAccMoffs w off) = .next ((Place.reg .eax).finish w (s.load (s.segOr .ds) off w.bytes, s)) := by
  rw [State.movAccMoffs, check_passes (State.noLock_eq_ok.mpr unlocked), State.memRead_eq_ok.mpr ⟨may, rfl⟩]
  rfl

theorem State.movMoffsAcc_completes (unlocked : s.Unlocked) (may : s.MayWrite w (.mem (s.segOr .ds) off)) :
    outcome (s.movMoffsAcc w off) = .next (s.store (s.segOr .ds) off w.bytes (s.reg w .eax)).retire := by
  rw [State.movMoffsAcc, check_passes (State.noLock_eq_ok.mpr unlocked), State.memWrite_eq_ok.mpr ⟨may, rfl⟩]
  rfl

theorem State.movRegImm_completes (unlocked : s.Unlocked) :
    outcome (s.movRegImm w r v) = .next (s.setReg w r v).retire :=
  congrArg outcome (check_passes (State.noLock_eq_ok.mpr unlocked))

variable {i : Instr}

theorem State.stopsWithCheck_movToRM (unlocked : s.Unlocked) (runs : exec i s = outcome (s.movToRM w rm v)) :
    s.StopsWithCheck i .write w (s.place rm) :=
  State.stopsWithCheck_write runs fun _ h =>
    (check_passes (State.noLock_eq_ok.mpr unlocked)).trans (check_stops h)

theorem State.stopsWithCheck_movFromRM {src : Width} {f : Word → Word} (unlocked : s.Unlocked)
    (runs : exec i s = outcome (s.movFromRM src w rm r f)) : s.StopsWithCheck i .read src (s.place rm) :=
  State.stopsWithCheck_read runs fun e h => by
    rw [State.movFromRM, State.readRM, check_passes (State.noLock_eq_ok.mpr unlocked), check_stops h, error_bind]

theorem State.stopsWithCheck_movAccMoffs (unlocked : s.Unlocked) (runs : exec i s = outcome (s.movAccMoffs w off)) :
    s.StopsWithCheck i .read w (.mem (s.segOr .ds) off) :=
  State.stopsWithCheck_read runs fun e h => by
    have stops : s.checkAccess .read (s.segOr .ds) off w.bytes = .error e := h
    rw [State.movAccMoffs, State.memRead, check_passes (State.noLock_eq_ok.mpr unlocked), check_stops stops, error_bind]

theorem State.stopsWithCheck_movMoffsAcc (unlocked : s.Unlocked) (runs : exec i s = outcome (s.movMoffsAcc w off)) :
    s.StopsWithCheck i .write w (.mem (s.segOr .ds) off) :=
  State.stopsWithCheck_write runs fun e h => by
    have stops : s.checkAccess .write (s.segOr .ds) off w.bytes = .error e := h
    rw [State.movMoffsAcc, State.memWrite, check_passes (State.noLock_eq_ok.mpr unlocked), check_stops stops,
      error_bind]

end

open State in
/-- Settles O15: the forms are the four shared meanings at 8 bits and at `OpSize`, each with the check it makes. -/
theorem movGeneralCompletes : Obligations.MovGeneralCompletes := by
  intro s rm r i8 iv off unlocked
  refine ⟨fun may => ⟨movToRM_completes unlocked may _, movToRM_completes unlocked may _⟩,
    fun may => ⟨movToRM_completes unlocked may _, movToRM_completes unlocked may _⟩,
    fun may => movFromRM_completes unlocked may id, fun may => movFromRM_completes unlocked may id,
    movAccMoffs_completes unlocked, movAccMoffs_completes unlocked, movMoffsAcc_completes unlocked,
    movMoffsAcc_completes unlocked, ?toRM, ?fromRM, ?fromMoffs, ?toMoffs⟩
  all_goals simp only [List.forall_mem_cons, List.not_mem_nil, false_imp_iff, implies_true, and_true]
  case toRM => and_intros <;> exact stopsWithCheck_movToRM unlocked rfl
  case fromRM => and_intros <;> exact stopsWithCheck_movFromRM unlocked rfl
  case fromMoffs => and_intros <;> exact stopsWithCheck_movAccMoffs unlocked rfl
  case toMoffs => and_intros <;> exact stopsWithCheck_movMoffsAcc unlocked rfl

/-! ### MOV register, immediate (rule R203) -/

/-- The immediate of a 16-bit form, least significant byte first (rules R73, R136). -/
theorem encSized_s16_setWidth (v : BitVec 16) :
    encSized .s16 (v.setWidth 32) = [v.extractLsb' 0 8, v.extractLsb' 8 8] := by
  simp [encSized, enc16]

theorem fits_s16_setWidth (v : BitVec 16) : fits .s16 (v.setWidth 32) = true := by
  simp [fits]; omega

/-- B8 to BF with an immediate of the operand size (rules R111, R203). -/
theorem decode_movRegvImmv {o a : Size} {r : Reg} {v : BitVec 32} {rest : List Byte} (h : fits o v = true) :
    decode o a ((0xB8 + r.code.setWidth 8) :: (encSized o v ++ rest)) = .ok (.movRegvImmv r v, rest) :=
  (decode_form (mapCell_movRegvImmv r)).trans (decodeForm_immV h)

/-- A register write that ends its instruction: besides, EIP, the shadow and the model's own `eipCarry` and `ctx`. -/
theorem State.setReg_retire_eq (s : State) (w : Width) (r : Reg) (v : Word) :
    (s.setReg w r v).retire =
      { s.setReg w r v with eip := s.eip + BitVec.ofNat 32 s.ctx.len, eipCarry := s.nextCarry, inhibit := .none,
                            ctx := {} } := by
  simp [State.retire, State.retireWith, State.eipNext, State.nextCarry]

/-- Settles O16: the register stands in the low bits of the opcode, and nothing is checked but the absence of LOCK. -/
theorem movRegisterImmediate : Obligations.MovRegisterImmediate := by
  intro s o a r i8 i16 i32 rest
  refine ⟨by cases r <;> rfl, ?imm16, decode_movRegvImmv (o := .s32) rfl, fun unlocked => ?effect⟩
  case imm16 =>
    have decoded := decode_movRegvImmv (a := a) (r := r) (rest := rest) (fits_s16_setWidth i16)
    rwa [encSized_s16_setWidth] at decoded
  case effect =>
    exact ⟨⟨_, (State.movRegImm_completes unlocked).trans (congrArg _ (s.setReg_retire_eq ..))⟩,
      ⟨_, (State.movRegImm_completes unlocked).trans (congrArg _ (s.setReg_retire_eq ..))⟩⟩

/-! ### MOVSX and MOVZX (rules R216, R217) -/

/-- A value sign-extended into a width that holds it keeps its signed value (rule R6). -/
theorem Width.signed_trunc_signExtend (w : Width) {n : Nat} (x : BitVec n) (h : n ≤ w.bits) :
    w.signed (w.trunc (x.signExtend 32)) = x.toInt := by
  have low : (2 : Int) ^ (n - 1) ≤ 2 ^ (w.bits - 1) := pow_le_pow_right₀ (by decide) (by omega)
  have fits : x.toInt.bmod (2 ^ w.bits) = x.toInt :=
    (w.bmod_eq_self_iff _).mpr ⟨(neg_le_neg low).trans x.le_toInt, x.toInt_lt.trans_le low⟩
  have wide : w.bits ≤ 32 := by cases w <;> decide
  have extended : (x.signExtend 32).toInt = x.toInt := BitVec.toInt_signExtend_of_le (h.trans wide)
  have modulus : (2 : Int) ^ w.bits = (2 ^ w.bits : Nat) := by simp
  rw [Width.signed_eq_bmod, Width.trunc_toNat]
  calc (((x.signExtend 32).toNat % 2 ^ w.bits : Nat) : Int).bmod (2 ^ w.bits)
      = ((x.signExtend 32).toNat : Int).bmod (2 ^ w.bits) := by rw [Int.natCast_emod, Int.emod_bmod]
    _ = (x.signExtend 32).toInt.bmod (2 ^ w.bits) := by
        rw [BitVec.toInt_eq_toNat_bmod, Int.bmod_bmod_of_dvd (Nat.pow_dvd_pow 2 wide)]
    _ = x.toInt := by rw [extended, fits]

theorem Width.trunc_lt (w : Width) (v : Word) : (w.trunc v).toNat < 2 ^ w.bits := by
  rw [w.trunc_toNat]
  exact Nat.mod_lt _ (Nat.two_pow_pos _)

theorem State.le_opWidth_bits (s : State) : 16 ≤ s.opWidth.bits := by
  unfold State.opWidth
  cases s.opSize <;> decide

open State in
/-- Settles O17: the four forms are one move with its own reading of the source. -/
theorem movExtendCompletes : Obligations.MovExtendCompletes := by
  intro s rm r unlocked
  have wide := s.le_opWidth_bits
  refine ⟨fun may => ⟨⟨_, s.opWidth.trunc_lt _, s.opWidth.signed_trunc_signExtend _ (by omega),
      movFromRM_completes unlocked may _⟩, s.readAt_lt .b8 _, movFromRM_completes unlocked may id⟩,
    fun may => ⟨⟨_, s.opWidth.trunc_lt _, s.opWidth.signed_trunc_signExtend _ wide,
      movFromRM_completes unlocked may _⟩, s.readAt_lt .w16 _, movFromRM_completes unlocked may id⟩, ?stops⟩
  simp only [List.forall_mem_cons, List.not_mem_nil, false_imp_iff, implies_true, and_true]
  and_intros <;> exact stopsWithCheck_movFromRM unlocked rfl

/-! ### MOV r/m16, Sreg and SMSW (rules R207, R464) -/

section
variable {s : State} {m : Mem} {r : Reg} {v : Half}

theorem State.writeHalf_mem : s.writeHalf (.mem m) v = s.writeRM .w16 (.mem m) (v.setWidth 32) := rfl

theorem State.writeHalf_reg_s16 (h : s.opSize = .s16) :
    s.writeHalf (.reg r) v = .ok ((Place.reg r).finish .w16 (v.setWidth 32, s)) := by
  unfold State.writeHalf
  rw [h]
  rfl

theorem State.writeHalf_reg_s32 (h : s.opSize = .s32) :
    s.writeHalf (.reg r) v = .ok ((Place.reg r).finish .d32 (s.nextDraw.extractLsb' 16 16 ++ v, s.drawn)) := by
  unfold State.writeHalf
  rw [h]
  rfl

end

/-- Settles O18: both instructions are `State.writeHalf` of their word, by memory or register and by `OpSize`. -/
theorem storeHalfCompletes : Obligations.StoreHalfCompletes := by
  intro s rm sr unlocked q hq
  have runs := exec_of_table (s := s) (fun v => do s.noLock; s.writeHalf rm v) rfl hq
  rw [check_passes (State.noLock_eq_ok.mpr unlocked)] at runs
  refine ⟨?memory, ?reg16, ?reg32, ?stops⟩
  case memory =>
    rintro m rfl may
    rw [runs, State.writeHalf_mem, State.writeRM_eq_ok.mpr ⟨may, rfl⟩]
    rfl
  case reg16 =>
    rintro r rfl size
    rw [runs, State.writeHalf_reg_s16 size, outcome_ok]
  case reg32 =>
    rintro r rfl size
    exact ⟨_, by rw [runs, State.writeHalf_reg_s32 size, outcome_ok]⟩
  case stops =>
    refine State.stopsWithCheck_write runs fun e h => ?_
    cases rm with
    | reg r => cases h
    | mem m => exact check_stops h

/-! ### Loads of segment registers (rules R205, R206, R326) -/

theorem inhibitAfterLoad_eq (r : SegReg) : inhibitAfterLoad r = if r = .ss then .all else .none := by
  cases r <;> rfl

section
variable {s : State} {rm : RM} {r : SegReg}

theorem execMovSregRm16_cs (unlocked : s.Unlocked) :
    exec (.movSregRm16 rm .cs) s = .refused (.reservedEncoding .moveToCs) :=
  outcome_eq_refused.mpr (check_passes (State.noLock_eq_ok.mpr unlocked))

/-- MOV of a segment register other than CS: the read, the load, the shadow (rules R205, R208). -/
theorem execMovSregRm16_eq (unlocked : s.Unlocked) (notCs : r ≠ .cs) :
    exec (.movSregRm16 rm r) s = outcome (do
      s.checkRead .w16 (s.place rm)
      let t ← s.loadSeg r ((s.readAt .w16 (s.place rm)).extractLsb' 0 16)
      .ok (t.retireWith (if r = .ss then .all else .none))) := by
  rw [← inhibitAfterLoad_eq]
  change outcome (do s.noLock; _) = _
  rw [check_passes (State.noLock_eq_ok.mpr unlocked), if_neg notCs, State.readRM]
  cases s.checkRead .w16 (s.place rm) <;> rfl

/-- POP of a segment register: the read, the load, the pointer, the shadow (rules R326, R328). -/
theorem State.popSeg_eq (unlocked : s.Unlocked) :
    s.popSeg r = (do
      s.checkPop 0 s.opWidth.bytes
      let t ← s.loadSeg r ((s.item 0 s.opWidth.bytes).extractLsb' 0 16)
      .ok ((t.setReg s.stackWidth .esp (s.stackUp s.opWidth.bytes)).retireWith
        (if r = .ss then .all else .none))) := by
  rw [← inhibitAfterLoad_eq]
  exact check_passes (State.noLock_eq_ok.mpr unlocked)

/-- An instruction that makes a check, loads a segment register and ends: it ends as the load does once the check has
passed. -/
theorem exec_completes_as_load {i : Instr} {check : M Unit} {sel : Half} {done : State → State}
    (runs : exec i s = outcome (do check; let t ← s.loadSeg r sel; .ok (done t))) (passes : check = .ok ()) :
    (∀ t, s.loadSeg r sel = .ok t → exec i s = .next (done t)) ∧
      ∀ e, s.loadSeg r sel = .error e → exec i s = outcome (.error e) := by
  rw [runs, check_passes passes]
  exact ⟨fun t h => by rw [h]; rfl, fun e h => by rw [h]; rfl⟩

end

/-- Settles O19: MOV and POP differ in the check before the load and in the stack pointer after it. -/
theorem segmentLoadsComplete : Obligations.SegmentLoadsComplete := by
  intro s unlocked
  refine ⟨fun rm r notCs may => ?mov, fun rm => execMovSregRm16_cs unlocked, fun rm r notCs => ?movStops,
    fun q hq => ?pop⟩
  case mov => exact exec_completes_as_load (execMovSregRm16_eq unlocked notCs) (State.checkRead_eq_ok.mpr may)
  case movStops => exact State.stopsWithCheck_read (execMovSregRm16_eq unlocked notCs) fun e h => check_stops h
  case pop =>
    have runs := exec_of_table (s := s) (fun r => s.popSeg r) rfl hq
    rw [State.popSeg_eq unlocked] at runs
    exact ⟨State.stopsWithPop_of runs fun e h => check_stops h,
      fun may => exec_completes_as_load runs (State.checkPop_eq_ok.mpr may)⟩

/-! ### Special registers (rules R209 to R215) -/

/-- The low bits of a value are zero as a field exactly when they are as a remainder. -/
theorem extractLsb'_low_eq_zero {v : Word} {n : Nat} : v.extractLsb' 0 n = 0 ↔ v.toNat % 2 ^ n = 0 := by
  rw [← BitVec.toNat_inj]
  simp

section
variable {s : State} {r : Reg} {v : Word}

theorem State.checkSpecial_denies (h : s.mode = .v86 ∨ (s.mode = .prot ∧ s.cpl ≠ 0)) : s.checkSpecial = raiseGP0 := by
  rcases h with mode | ⟨mode, level⟩
  · rw [State.checkSpecial, mode]
  · rw [State.checkSpecial, mode]
    exact if_neg level

/-- An instruction that makes the privilege check first. -/
theorem State.special_denied (unlocked : s.Unlocked) (h : s.mode = .v86 ∨ (s.mode = .prot ∧ s.cpl ≠ 0))
    (rest : M State) :
    outcome (do s.noLock; s.checkSpecial; rest) = .fault (.exception .generalProtection (some 0)) := by
  rw [check_passes (State.noLock_eq_ok.mpr unlocked), State.checkSpecial_denies h]
  rfl

theorem State.special_passes (unlocked : s.Unlocked) (privileged : s.Privileged) (rest : M State) :
    (do s.noLock; s.checkSpecial; rest) = rest :=
  (check_passes (State.noLock_eq_ok.mpr unlocked)).trans (check_passes (State.checkSpecial_eq_ok.mpr privileged))

/-- An instruction that writes the special register, after the privilege check and the check of the value. -/
theorem State.special_refuses (unlocked : s.Unlocked) (privileged : s.Privileged) {check : M Unit} {why : Refusal}
    (h : check = refuse why) (done : M State) :
    outcome (do s.noLock; s.checkSpecial; check; done) = .refused why := by
  rw [State.special_passes unlocked privileged, h]
  rfl

/-- An instruction that passes the privilege check, changes no flag up to `u`, and ends in the status flags drawn
(rule R209). -/
theorem State.special_completes {rest : M State} {u : State} (unlocked : s.Unlocked) (privileged : s.Privileged)
    (h : rest = .ok u.undefineFlags.retire) (flags : u.flags = s.flags) :
    ∃ f, s.flags.KeepsControl f ∧
      outcome (do s.noLock; s.checkSpecial; rest) = .next ((u.setFlags f).drawn.retire) :=
  ⟨u.flags.undefined u.nextDraw, by rw [flags]; exact s.flags.undefined_keepsControl _,
    by rw [State.special_passes unlocked privileged, h]; rfl⟩

theorem State.checkCreg_paging (h : v.getLsbD 31 = true) : s.checkCreg .cr0 v = refuse .paging := if_pos h

theorem State.checkCreg_leaving (noPaging : v.getLsbD 31 = false) (pe : s.pe = true) (clears : v.getLsbD 0 = false) :
    s.checkCreg .cr0 v = refuse .leavingProtectedMode := by
  rw [State.checkCreg, noPaging, pe, clears]
  rfl

theorem State.checkCreg_cr3 (h : v.toNat % 2 ^ 12 ≠ 0) : s.checkCreg .cr3 v = refuse .cr3LowBits :=
  if_neg (mt extractLsb'_low_eq_zero.mp h)

theorem checkDreg_dr7 (h : v.toNat % 2 ^ 8 ≠ 0) : checkDreg .dr7 v = refuse .breakpointsEnabled :=
  if_neg (mt extractLsb'_low_eq_zero.mp h)

/-- The values that MOV to a control register takes (rules R36, R211). -/
theorem State.checkCreg_passes {c : CReg}
    (cr0 : c = .cr0 → v.getLsbD 31 = false ∧ (s.pe = true → v.getLsbD 0 = true))
    (cr3 : c = .cr3 → v.toNat % 2 ^ 12 = 0) : s.checkCreg c v = .ok () := by
  cases c with
  | cr0 =>
    obtain ⟨noPaging, stays⟩ := cr0 rfl
    rw [State.checkCreg, noPaging]
    cases pe : s.pe with
    | false => rfl
    | true => rw [stays pe]; rfl
  | cr2 => rfl
  | cr3 => exact if_pos (extractLsb'_low_eq_zero.mpr (cr3 rfl))

/-- The values that MOV to a debug register takes (rules R39, R213). -/
theorem checkDreg_passes {d : DReg} (dr7 : d = .dr7 → v.toNat % 2 ^ 8 = 0) : checkDreg d v = .ok () := by
  cases d with
  | dr7 => exact if_pos (extractLsb'_low_eq_zero.mpr (dr7 rfl))
  | dr0 | dr1 | dr2 | dr3 | dr6 => rfl

theorem State.setCreg_creg (s : State) (c : CReg) (v : Word) : (s.setCreg c v).creg c = v := by cases c <;> rfl

end

open State in
/-- Settles O20: the six instructions make the privilege check first, the writes then the check of their value, and what
passes both ends in the status flags drawn. -/
theorem specialMoves : Obligations.SpecialMoves := by
  intro s c d t r unlocked
  refine ⟨fun denied => ?denied, fun privileged => ?privileged⟩
  case denied =>
    simp only [List.forall_mem_cons, List.not_mem_nil, false_imp_iff, implies_true, and_true]
    exact ⟨special_denied unlocked denied _, special_denied unlocked denied _, special_denied unlocked denied _,
      special_denied unlocked denied _, special_denied (s := s.drawn) unlocked denied _,
      special_denied unlocked denied _⟩
  case privileged =>
    have refuses {check why} := special_refuses unlocked privileged (check := check) (why := why)
    have completes {rest u} := special_completes unlocked privileged (rest := rest) (u := u)
    refine ⟨fun paging => refuses (checkCreg_paging paging) _,
      fun noPaging pe clears => refuses (checkCreg_leaving noPaging pe clears) _,
      fun low => refuses (checkCreg_cr3 low) _, fun low => refuses (checkDreg_dr7 low) _,
      completes rfl rfl, completes rfl rfl, ?readTr,
      fun cr0 cr3 => completes (check_passes (checkCreg_passes cr0 cr3)) (s.setCreg_flags ..),
      s.setCreg_creg .., s.setCreg_cpl .., s.setCreg_segs ..,
      fun dr7 => completes (check_passes (checkDreg_passes dr7)) (s.setDreg_flags ..), completes rfl rfl⟩
    case readTr =>
      obtain ⟨f, control, read⟩ := special_completes (s := s.drawn) unlocked privileged
        (u := s.drawn.setReg .d32 r s.nextDraw) rfl rfl
      exact ⟨f, s.nextDraw, control, read⟩

end Sys2Proof.Machine
end

section
/-! The flags that instructions leave as they were (rules R201 to R207, R216, R217, R264, R322 to R338, R370, R430 to
R450, R460 to R467): one rule per shared meaning, with the statement about them settled. -/

namespace Sys2Proof.Machine

/-! ### Operands -/

section
variable {s t : State} {w : Width} {rm : RM} {r : Reg}

theorem State.writeRM_flags {v : Word} (h : s.writeRM w rm v = .ok t) : t.flags = s.flags := by
  obtain ⟨-, rfl⟩ := State.writeRM_eq_ok.mp h
  simp

theorem State.movToRM_flags {v : Word} (h : outcome (s.movToRM w rm v) = .next t) : t.flags = s.flags := by
  obtain ⟨-, -, rfl⟩ := State.movToRM_eq_ok.mp (outcome_eq_next.mp h)
  simp

theorem State.movFromRM_flags {src : Width} {f : Word → Word} (h : outcome (s.movFromRM src w rm r f) = .next t) :
    t.flags = s.flags := by
  obtain ⟨-, -, rfl⟩ := State.movFromRM_eq_ok.mp (outcome_eq_next.mp h)
  simp

theorem State.movRegImm_flags {v : Word} (h : outcome (s.movRegImm w r v) = .next t) : t.flags = s.flags := by
  obtain ⟨-, rfl⟩ := check_ok_eq_ok.mp (outcome_eq_next.mp h)
  simp

theorem State.movAccMoffs_flags {off : Word} (h : outcome (s.movAccMoffs w off) = .next t) : t.flags = s.flags := by
  have ⟨_, h⟩ := check_eq_ok.mp (outcome_eq_next.mp h)
  obtain ⟨v, -, h⟩ := bind_eq_ok.mp h
  cases h
  simp

theorem State.movMoffsAcc_flags {off : Word} (h : outcome (s.movMoffsAcc w off) = .next t) : t.flags = s.flags := by
  have ⟨_, h⟩ := check_eq_ok.mp (outcome_eq_next.mp h)
  obtain ⟨u, hu, h⟩ := bind_eq_ok.mp h
  obtain ⟨-, rfl⟩ := State.memWrite_eq_ok.mp hu
  cases h
  simp

theorem State.writeHalf_flags {v : Half} (h : s.writeHalf rm v = .ok t) : t.flags = s.flags := by
  unfold State.writeHalf at h
  split at h
  · cases h
    simp
  · exact State.writeRM_flags h

/-- MOV r/m16, Sreg and SMSW (rules R207, R464). -/
theorem State.noLock_writeHalf_flags {v : Half} (h : outcome (do s.noLock; s.writeHalf rm v) = .next t) :
    t.flags = s.flags :=
  have ⟨_, h⟩ := check_eq_ok.mp (outcome_eq_next.mp h)
  State.writeHalf_flags h

/-- NOT is the one-operand form that sets no flags (rule R264). -/
theorem State.rmUnary_notOp_flags (h : outcome (s.rmUnary notOp w rm) = .next t) : t.flags = s.flags := by
  obtain ⟨-, -, rfl⟩ := State.rmUnary_eq_ok.mp (outcome_eq_next.mp h)
  simp [notOp]

theorem State.setCond_flags {c : BitVec 4} (h : outcome (s.setCond c rm) = .next t) : t.flags = s.flags :=
  have ⟨_, h⟩ := check_eq_ok.mp (outcome_eq_next.mp h)
  State.writeRM_flags h

theorem State.storeSel_flags {sel : Half} (h : outcome (s.storeSel sel rm) = .next t) : t.flags = s.flags :=
  have ⟨_, h⟩ := check_eq_ok.mp (outcome_eq_next.mp h)
  have ⟨_, h⟩ := check_eq_ok.mp h
  State.writeRM_flags h

theorem State.storeTable_flags {x : TableReg} (h : outcome (s.storeTable x rm) = .next t) : t.flags = s.flags := by
  obtain ⟨-, g, off, -, -, rfl⟩ := State.storeTable_eq_ok.mp (outcome_eq_next.mp h)
  simp [State.tableStored]

theorem State.xchgRM_flags (h : outcome (s.xchgRM w rm r) = .next t) : t.flags = s.flags := by
  have ⟨_, h⟩ := check_eq_ok.mp (outcome_eq_next.mp h)
  obtain ⟨-, rfl⟩ := check_ok_eq_ok.mp h
  simp

theorem execXchgAxReg_flags (h : exec (.xchgAxReg r) s = .next t) : t.flags = s.flags := by
  obtain ⟨-, rfl⟩ := check_ok_eq_ok.mp (outcome_eq_next.mp h)
  simp

theorem execXlat_flags (h : exec .xlat s = .next t) : t.flags = s.flags := by
  have ⟨_, h⟩ := check_eq_ok.mp (outcome_eq_next.mp h)
  obtain ⟨v, -, h⟩ := bind_eq_ok.mp h
  cases h
  simp

theorem execNop_flags (h : exec .nop s = .next t) : t.flags = s.flags := by
  obtain ⟨-, rfl⟩ := check_ok_eq_ok.mp (outcome_eq_next.mp h)
  simp

/-- WAIT holds or completes (rule R446). -/
theorem execWait_flags (h : exec .wait s = .next t) : t.flags = s.flags := by
  have ⟨_, h⟩ := check_eq_ok.mp (outcome_eq_next.mp h)
  have ⟨_, h⟩ := (guard_eq_ok (by simp [bind_eq_ok])).mp h
  split at h
  · cases h
    simp
  · have ⟨_, h⟩ := (guard_eq_ok (by simp)).mp h
    cases h
    simp

end

/-! ### The stack -/

@[simp] theorem State.pushed_flags (s : State) (n : Nat) (v : Word) : (s.pushed n v).flags = s.flags := by
  simp [State.pushed_eq]

@[simp] theorem State.popped_flags (s : State) (k : Nat) : (s.popped k).flags = s.flags := by
  simp [State.popped, State.setSp]

@[simp] theorem State.pushedAll_flags (s : State) (n : Nat) (vs : List Word) : (s.pushedAll n vs).flags = s.flags := by
  induction vs generalizing s with
  | nil => rfl
  | cons v vs ih => rw [State.pushedAll, ih, s.pushed_flags]

@[simp] theorem State.loadItems_flags (t s : State) (n k : Nat) (rs : List Reg) :
    (t.loadItems s n k rs).flags = t.flags := by
  induction rs generalizing t k with
  | nil => rfl
  | cons r rs ih =>
    rw [State.loadItems, ih]
    split <;> simp

section
variable {s t : State} {rm : RM} {r : Reg}

/-- A push that ends its instruction. -/
theorem State.push_retire_flags {n : Nat} {v : Word}
    (h : (do let u ← s.push n v; .ok u.retire : M State) = .ok t) : t.flags = s.flags := by
  obtain ⟨u, pushed, h⟩ := bind_eq_ok.mp h
  obtain ⟨-, rfl⟩ := State.push_eq_ok.mp pushed
  cases h
  simp

theorem State.pushValue_flags {v : Word} (h : outcome (s.pushValue v) = .next t) : t.flags = s.flags :=
  have ⟨_, h⟩ := check_eq_ok.mp (outcome_eq_next.mp h)
  State.push_retire_flags h

theorem execPushRm_flags (h : exec (.pushRm rm) s = .next t) : t.flags = s.flags := by
  have ⟨_, h⟩ := check_eq_ok.mp (outcome_eq_next.mp h)
  have ⟨_, h⟩ := (guard_eq_ok (by simp [bind_eq_ok])).mp h
  obtain ⟨v, -, h⟩ := bind_eq_ok.mp h
  exact State.pushValue_flags (outcome_eq_next.mpr h)

theorem State.pushSeg_flags {x : SegReg} (h : outcome (s.pushSeg x) = .next t) : t.flags = s.flags := by
  have ⟨_, h⟩ := check_eq_ok.mp (outcome_eq_next.mp h)
  split at h
  · exact State.push_retire_flags h
  · exact State.push_retire_flags (s := s.drawn) h

theorem execPushf_flags (h : exec .pushf s = .next t) : t.flags = s.flags :=
  have ⟨_, h⟩ := check_eq_ok.mp (outcome_eq_next.mp h)
  have ⟨_, h⟩ := check_eq_ok.mp h
  State.push_retire_flags (s := s.drawn) h

theorem execPusha_flags (h : exec .pusha s = .next t) : t.flags = s.flags := by
  have ⟨_, h⟩ := check_eq_ok.mp (outcome_eq_next.mp h)
  obtain ⟨-, rfl⟩ := check_ok_eq_ok.mp h
  exact s.pushedAll_flags ..

theorem State.popInto_flags (h : s.popInto r = .ok t) : t.flags = s.flags := by
  have ⟨_, h⟩ := (guard_eq_ok (by simp [bind_eq_ok])).mp h
  obtain ⟨-, rfl⟩ := check_ok_eq_ok.mp h
  simp

theorem State.popMem_flags {m : Mem} (h : s.popMem m = .ok t) : t.flags = s.flags := by
  have ⟨_, h⟩ := (guard_eq_ok (by simp [bind_eq_ok])).mp h
  have ⟨_, h⟩ := check_eq_ok.mp h
  obtain ⟨-, rfl⟩ := check_ok_eq_ok.mp h
  simp

theorem execPopReg_flags (h : exec (.popReg r) s = .next t) : t.flags = s.flags :=
  have ⟨_, h⟩ := check_eq_ok.mp (outcome_eq_next.mp h)
  State.popInto_flags h

theorem execPopRm_flags (h : exec (.popRm rm) s = .next t) : t.flags = s.flags := by
  have ⟨_, h⟩ := check_eq_ok.mp (outcome_eq_next.mp h)
  cases rm with
  | reg r => exact State.popInto_flags h
  | mem m => exact State.popMem_flags h

theorem execPopa_flags (h : exec .popa s = .next t) : t.flags = s.flags := by
  have ⟨_, h⟩ := check_eq_ok.mp (outcome_eq_next.mp h)
  obtain ⟨-, rfl⟩ := check_ok_eq_ok.mp h
  simp

/-! ### Instructions that set some flags -/

/-- A rotate sets CF and OF (rules R370, R371). -/
theorem Flags.shift_of_isRotate {k : Shift} (rotate : k.isRotate = true) (f : Flags) (w : Width) (n : Nat)
    (a v : Word) (cf : Bool) (x : Word) :
    f.shift k w n a v cf x = { f with cf := cf, ofl := if n = 1 then k.overflow w a v cf else x.getLsbD 11 } :=
  if_pos rotate

theorem State.shiftRM_flags_of_isRotate {k : Shift} (rotate : k.isRotate = true) {w : Width} {n : Count}
    (h : outcome (s.shiftRM k w rm n) = .next t) :
    t.flags = { s.flags with cf := t.flags.cf, ofl := t.flags.ofl } := by
  obtain ⟨-, -, rfl⟩ := State.shiftRM_eq_ok.mp (outcome_eq_next.mp h)
  simp [shiftOp, Flags.shift_of_isRotate rotate]

/-- VERR and VERW set ZF (rules R466, R467). -/
theorem State.verify_flags {ok : Descriptor → BitVec 2 → BitVec 2 → Bool} (h : outcome (s.verify ok rm) = .next t) :
    t.flags = { s.flags with zf := t.flags.zf } := by
  have ⟨_, h⟩ := check_eq_ok.mp (outcome_eq_next.mp h)
  have ⟨_, h⟩ := check_eq_ok.mp h
  obtain ⟨v, -, h⟩ := bind_eq_ok.mp h
  dsimp only at h
  split at h <;> obtain ⟨d?, -, h⟩ := bind_eq_ok.mp h <;> cases h <;> rfl

end

open State in
/-- Settles O53: the lists are walked in their order, each entry by the rule of the meaning that its form shares. -/
theorem flagsKept : Obligations.FlagsKept := by
  intro s t rm r sr n i8 iv
  refine ⟨?none, ?rotates, ?verifies⟩ <;>
    simp only [List.forall_mem_cons, List.not_mem_nil, false_imp_iff, implies_true, and_true]
  case none =>
    exact ⟨movToRM_flags, movToRM_flags, movToRM_flags, movToRM_flags, movFromRM_flags, movFromRM_flags,
      movRegImm_flags, movRegImm_flags, movAccMoffs_flags, movAccMoffs_flags, movMoffsAcc_flags, movMoffsAcc_flags,
      noLock_writeHalf_flags, movFromRM_flags, movFromRM_flags, movFromRM_flags, movFromRM_flags,
      rmUnary_notOp_flags, rmUnary_notOp_flags, xchgRM_flags, xchgRM_flags, execXchgAxReg_flags, execXlat_flags,
      execNop_flags, execWait_flags, setCond_flags, setCond_flags, setCond_flags, setCond_flags, setCond_flags,
      setCond_flags, setCond_flags, setCond_flags, setCond_flags, setCond_flags, setCond_flags, setCond_flags,
      setCond_flags, setCond_flags, setCond_flags, setCond_flags, pushValue_flags, execPushRm_flags,
      pushValue_flags, pushValue_flags, pushSeg_flags, pushSeg_flags, pushSeg_flags, pushSeg_flags, pushSeg_flags,
      pushSeg_flags, execPushf_flags, execPusha_flags, execPopReg_flags, execPopRm_flags, execPopa_flags,
      storeTable_flags, storeTable_flags, storeSel_flags, storeSel_flags, noLock_writeHalf_flags⟩
  case rotates =>
    exact ⟨shiftRM_flags_of_isRotate rfl, shiftRM_flags_of_isRotate rfl, shiftRM_flags_of_isRotate rfl,
      shiftRM_flags_of_isRotate rfl, shiftRM_flags_of_isRotate rfl, shiftRM_flags_of_isRotate rfl,
      shiftRM_flags_of_isRotate rfl, shiftRM_flags_of_isRotate rfl⟩
  case verifies => exact ⟨verify_flags, verify_flags⟩

end Sys2Proof.Machine
end

section
/-! MOVS, SCAS, STOS and OUTS, once and repeated (rules R230 to R244, R302): how a step of one ends, what it completes
with, and what it leaves unchanged, with the statements about them settled. -/

namespace Sys2Proof.Machine

/-! ### The index and count registers (rules R119, R235, R240) -/

@[simp] theorem State.advance_flags (s : State) (r : Reg) (w : Width) : (s.advance r w).flags = s.flags := by
  simp [State.advance]

@[simp] theorem State.advance_ioOut (s : State) (r : Reg) (w : Width) : (s.advance r w).ioOut = s.ioOut := by
  simp [State.advance]

@[simp] theorem State.countDown_flags (s : State) : s.countDown.flags = s.flags := by simp [State.countDown]

@[simp] theorem State.countDown_ioOut (s : State) : s.countDown.ioOut = s.ioOut := by simp [State.countDown]

theorem State.countDown_eq (s : State) : ∃ v : Word, s.countDown = s.setReg s.addrWidth .ecx v ∧
    (v.toNat : Int) = ((s.count.toNat : Int) - 1) % 2 ^ s.addrWidth.bits :=
  ⟨_, rfl, Width.trunc_sub_toNat s.addrWidth s.count 1⟩

/-- `IncDec` as a number: the element is added, or subtracted with DF set (rule R235). -/
theorem State.advance_eq (s : State) (r : Reg) (w : Width) : ∃ v : Word, s.advance r w = s.setReg s.addrWidth r v ∧
    (v.toNat : Int) = ((s.reg s.addrWidth r).toNat + if s.flags.df then -(w.bytes : Int) else w.bytes) %
      2 ^ s.addrWidth.bits := by
  refine ⟨_, rfl, ?_⟩
  cases s.flags.df with
  | true => exact Width.trunc_sub_toNat ..
  | false =>
    have sum := Width.trunc_add_toNat s.addrWidth (s.reg s.addrWidth r) w.bytes
    zify at sum
    exact sum

theorem State.stringSrc_eq (s : State) :
    s.stringSrc = .mem (match s.ctx.seg with | some x => x | none => .ds) (s.reg s.addrWidth .esi) := by
  unfold State.stringSrc State.segOr
  cases s.ctx.seg <;> rfl

/-! ### OUTS once (rule R302) -/

theorem outsOnce_eq_ok {w : Width} {s t : State} :
    outsOnce w s = .ok t ↔ s.MayOutput s.dx.toNat w.bytes ∧ s.MayRead w s.stringSrc ∧
      s.dx.toNat + w.bytes - 1 ≤ 0xFFFF ∧ t = (s.emit s.dx w (s.readAt w s.stringSrc)).advance .esi w := by
  rw [outsOnce, check_eq_ok, check_eq_ok, bind_eq_ok, State.checkIo_eq_ok, State.checkRead_eq_ok]
  simp only [State.ioWrite_eq_ok, State.checkIo_eq_ok, checkPortRange_eq_ok, Except.ok.injEq]
  constructor
  · rintro ⟨may, read, u, ⟨-, range, rfl⟩, rfl⟩
    exact ⟨may, read, range, rfl⟩
  · rintro ⟨may, read, range, rfl⟩
    exact ⟨may, read, _, ⟨may, range, rfl⟩, rfl⟩

/-! ### One step of a string instruction (rules R240 to R244) -/

section
variable {s u : State} {p : RepPrefix} {stops : RepPrefix → State → Bool} {once : State → M State}

/-- Without a repeat byte the primitive is the whole instruction. -/
theorem State.stringOp_of_single (unlocked : s.Unlocked) (single : s.ctx.rep = none) (done : once s = .ok u) :
    s.stringOp stops once = .ok u.retire :=
  (check_passes (State.noLock_eq_ok.mpr unlocked)).trans (State.repeated_eq_ok.mpr (.inl ⟨single, u, done, rfl⟩))

/-- With a repeat byte and the count 0 nothing is done (rule R240). -/
theorem State.stringOp_of_count_zero (unlocked : s.Unlocked) (rep : s.ctx.rep = some p) (zero : s.count = 0) :
    s.stringOp stops once = .ok s.retire :=
  (check_passes (State.noLock_eq_ok.mpr unlocked)).trans (State.repeated_eq_ok.mpr (.inr (.inl ⟨p, rep, zero, rfl⟩)))

/-- With a repeat byte one step is one iteration, and the last one when the count or that byte says so. -/
theorem State.stringOp_of_iteration (unlocked : s.Unlocked) (rep : s.ctx.rep = some p) (left : s.count ≠ 0)
    (done : once s = .ok u) :
    s.stringOp stops once = .ok (if u.countDown.count = 0 ∨ stops p u.countDown = true then u.countDown.retire
      else u.countDown.again) :=
  (check_passes (State.noLock_eq_ok.mpr unlocked)).trans
    (State.repeated_eq_ok.mpr (.inr (.inr ⟨p, u, rep, left, done, rfl⟩)))

/-- A stop of the primitive, when it is performed, stops the step (rule R244). -/
theorem State.stringOp_stops {e : Stop} (unlocked : s.Unlocked) (performed : s.ctx.rep = none ∨ s.count ≠ 0)
    (h : once s = .error e) : s.stringOp stops once = .error e := by
  rw [State.stringOp, check_passes (State.noLock_eq_ok.mpr unlocked), State.repeated]
  split
  case h_1 => rw [h, error_bind]
  case h_2 p rep =>
    have left : s.count ≠ 0 := performed.resolve_left (by simp [rep])
    rw [if_neg left, h, error_bind]

end

/-- `Terminate` of an instruction that looks at ZF or does not (rule R242). -/
theorem terminate_iff (onZf : Bool) (p : RepPrefix) (s : State) :
    (cond onZf stopsOnZf neverStops) p s = true ↔ onZf = true ∧ s.flags.zf = (p == .repne) := by
  cases onZf with
  | false => simp [neverStops]
  | true =>
    cases p with
    | repe => exact Bool.not_eq_eq_eq_not.trans (and_iff_right rfl).symm
    | repne => exact (and_iff_right rfl).symm

/-- Settles O22: the eight forms are `State.stringOp` of their primitive and of how they terminate. -/
theorem repeatedStep : Obligations.RepeatedStep := by
  intro s p unlocked rep
  refine ⟨fun zero => ?zero, fun left q hq => ?iteration, rfl, rfl, s.countDown_eq⟩
  case zero =>
    simp only [List.forall_mem_cons, List.not_mem_nil, false_imp_iff, implies_true, and_true]
    and_intros <;> exact outcome_eq_next.mpr (State.stringOp_of_count_zero unlocked rep zero)
  case iteration =>
    have runs := exec_of_table (s := s) (fun x => s.stringOp (cond x.2 stopsOnZf neverStops) x.1) rfl hq
    refine ⟨fun u done => ?_, fun e stop => ?_⟩
    · rw [runs, State.stringOp_of_iteration unlocked rep left done, outcome_ok]
      simp only [terminate_iff, State.countDown_flags]
    · rw [runs, State.stringOp_stops unlocked (.inr left) stop]

/-! ### The forms, and what they complete with without a repeat byte (rules R230 to R232, R302) -/

section
variable {s : State} {q : Instr × Width}

theorem exec_movs (hq : q ∈ ([(.movs8, .b8), (.movsv, s.opWidth)] : List (Instr × Width))) :
    exec q.1 s = outcome (s.stringOp neverStops (movsOnce q.2)) :=
  exec_of_table (fun w => s.stringOp neverStops (movsOnce w)) rfl hq

theorem exec_scas (hq : q ∈ ([(.scas8, .b8), (.scasv, s.opWidth)] : List (Instr × Width))) :
    exec q.1 s = outcome (s.stringOp stopsOnZf (scasOnce q.2)) :=
  exec_of_table (fun w => s.stringOp stopsOnZf (scasOnce w)) rfl hq

theorem exec_stos (hq : q ∈ ([(.stos8, .b8), (.stosv, s.opWidth)] : List (Instr × Width))) :
    exec q.1 s = outcome (s.stringOp neverStops (stosOnce q.2)) :=
  exec_of_table (fun w => s.stringOp neverStops (stosOnce w)) rfl hq

theorem exec_outs (hq : q ∈ ([(.outs8, .b8), (.outsv, s.opWidth)] : List (Instr × Width))) :
    exec q.1 s = outcome (s.stringOp neverStops (outsOnce q.2)) :=
  exec_of_table (fun w => s.stringOp neverStops (outsOnce w)) rfl hq

end

open State in
/-- Settles O21: each form is `State.stringOp` of its primitive, which completes when its checks pass and stops with the
first of them that does not. -/
theorem stringOnceCompletes : Obligations.StringOnceCompletes := by
  intro s unlocked single
  refine ⟨fun q hq read write => ?movs, fun q hq read => ?scas, fun q hq write => ?stos,
    fun q hq read may range => ?outs, fun q hq => ?movsStops, fun q hq => ?scasStops, fun q hq => ?stosStops,
    fun q hq may => ?outsStops, s.stringSrc_eq, rfl, fun r _ w => s.advance_eq r w⟩
  case movs =>
    rw [exec_movs hq, stringOp_of_single unlocked single (movsOnce_eq_ok.mpr ⟨read, write, rfl⟩), outcome_ok]
  case scas =>
    rw [exec_scas hq, stringOp_of_single unlocked single (scasOnce_eq_ok.mpr ⟨read, rfl⟩), outcome_ok]
  case stos =>
    rw [exec_stos hq, stringOp_of_single unlocked single (stosOnce_eq_ok.mpr ⟨write, rfl⟩), outcome_ok]
  case outs =>
    rw [exec_outs hq, stringOp_of_single unlocked single (outsOnce_eq_ok.mpr ⟨may, read, by omega, rfl⟩), outcome_ok]
  case movsStops =>
    exact stopsWithTwo_of (exec_movs hq) fun _ h => stringOp_stops unlocked (.inl single) (check_stops h)
  case scasStops =>
    exact stopsWithCheck_read (exec_scas hq) fun _ h => stringOp_stops unlocked (.inl single) (check_stops h)
  case stosStops =>
    exact stopsWithCheck_write (exec_stos hq) fun _ h => stringOp_stops unlocked (.inl single) (check_stops h)
  case outsStops =>
    exact stopsWithCheck_read (exec_outs hq) fun _ h => stringOp_stops unlocked (.inl single)
      ((check_passes (checkIo_eq_ok.mpr may)).trans (check_stops h))

/-! ### What a step leaves unchanged -/

/-- A step of `s` whose primitive left `u`, or that did not perform it and has `u = s`, ends in `t`: the count register goes
down with a repeat byte only (rule R240). -/
def State.EndsIn (s u t : State) : Prop :=
  t = u.retire ∨ s.ctx.rep ≠ none ∧ (t = u.countDown.retire ∨ t = u.countDown.again)

section
variable {s t u : State} {stops : RepPrefix → State → Bool} {once : State → M State}

/-- A step performs the primitive once at most. -/
theorem State.endsIn_of_stringOp (h : outcome (s.stringOp stops once) = .next t) :
    ∃ u, (u = s ∨ once s = .ok u) ∧ s.EndsIn u t := by
  have ⟨_, h⟩ := check_eq_ok.mp (outcome_eq_next.mp h)
  obtain ⟨-, u, done, rfl⟩ | ⟨p, -, -, rfl⟩ | ⟨p, u, rep, -, done, rfl⟩ := State.repeated_eq_ok.mp h
  · exact ⟨u, .inr done, .inl rfl⟩
  · exact ⟨s, .inl rfl, .inl rfl⟩
  · refine ⟨u, .inr done, .inr ⟨by simp [rep], ?_⟩⟩
    split
    · exact .inl rfl
    · exact .inr rfl

theorem State.EndsIn.flags (h : s.EndsIn u t) : t.flags = u.flags := by
  obtain rfl | ⟨-, rfl | rfl⟩ := h <;> simp

theorem State.EndsIn.ioOut (h : s.EndsIn u t) : t.ioOut = u.ioOut := by
  obtain rfl | ⟨-, rfl | rfl⟩ := h <;> simp

variable {rs cx : List Reg} {bs : List Nat}

theorem State.EndsIn.touches {v : State} (h : s.EndsIn u t) (counted : s.ctx.rep ≠ none → .ecx ∈ cx)
    (touched : v.Touches u rs bs) : v.Touches t (rs ++ cx) bs := by
  obtain rfl | ⟨rep, ends⟩ := h
  · exact touched.retire.mono (by simp) (List.Subset.refl _)
  · have named : rs ++ [.ecx] ⊆ rs ++ cx := by simp [counted rep]
    obtain rfl | rfl := ends
    · exact touched.countDown.retire.mono named (List.Subset.refl _)
    · exact touched.countDown.again.mono named (List.Subset.refl _)

theorem State.stringOp_touches (counted : s.ctx.rep ≠ none → .ecx ∈ cx)
    (body : ∀ {u}, once s = .ok u → s.Touches u rs bs) (h : outcome (s.stringOp stops once) = .next t) :
    s.Touches t (rs ++ cx) bs := by
  obtain ⟨u, rfl | done, ends⟩ := State.endsIn_of_stringOp h
  · exact ends.touches counted ((State.Touches.refl u).mono (by simp) (by simp))
  · exact ends.touches counted (body done)

theorem State.stringOp_flags (body : ∀ {u}, once s = .ok u → u.flags = s.flags)
    (h : outcome (s.stringOp stops once) = .next t) : t.flags = s.flags := by
  obtain ⟨u, rfl | done, ends⟩ := State.endsIn_of_stringOp h
  · exact ends.flags
  · exact ends.flags.trans (body done)

end

section
variable {s t u : State} {w : Width}

theorem movsOnce_touches (h : movsOnce w s = .ok u) : s.Touches u [.esi, .edi] (s.placeAddrs w s.stringDst) := by
  obtain ⟨-, -, rfl⟩ := movsOnce_eq_ok.mp h
  exact (State.Touches.refl s).writeAt.advance.advance

theorem movsOnce_flags (h : movsOnce w s = .ok u) : u.flags = s.flags := by
  obtain ⟨-, -, rfl⟩ := movsOnce_eq_ok.mp h
  simp

theorem stosOnce_touches (h : stosOnce w s = .ok u) : s.Touches u [.edi] (s.placeAddrs w s.stringDst) := by
  obtain ⟨-, rfl⟩ := stosOnce_eq_ok.mp h
  exact (State.Touches.refl s).writeAt.advance

theorem stosOnce_flags (h : stosOnce w s = .ok u) : u.flags = s.flags := by
  obtain ⟨-, rfl⟩ := stosOnce_eq_ok.mp h
  simp

theorem scasOnce_touches (h : scasOnce w s = .ok u) : s.Touches u [.edi] [] := by
  obtain ⟨-, rfl⟩ := scasOnce_eq_ok.mp h
  exact ((State.Touches.refl s).setFlags (s.flags.ofDifference_keepsControl ..)).advance

/-- Beside the one event OUTS changes (E)SI (rules R96, R302). -/
theorem outsOnce_touches (h : outsOnce w s = .ok u) :
    ({ s with ioOut := u.ioOut } : State).Touches u [.esi] [] ∧ u.flags = s.flags ∧
      ∃ e, u.ioOut = s.ioOut ++ [e] := by
  obtain ⟨-, -, -, rfl⟩ := outsOnce_eq_ok.mp h
  refine ⟨?_, State.advance_flags .., _, State.advance_ioOut ..⟩
  rw [State.advance_ioOut]
  exact (State.Touches.refl (s.emit ..)).advance

/-- A step of OUTS, repeated or not: its frame but for the list of events, and what becomes of that. -/
theorem outs_frame {stops : RepPrefix → State → Bool} {cx : List Reg} (counted : s.ctx.rep ≠ none → .ecx ∈ cx)
    (h : outcome (s.stringOp stops (outsOnce w)) = .next t) :
    ({ s with ioOut := t.ioOut } : State).Frame t ([.esi] ++ cx) [] ∧ t.flags = s.flags ∧
      (t.ioOut = s.ioOut ∨ ∃ e, t.ioOut = s.ioOut ++ [e]) := by
  obtain ⟨u, performed, ends⟩ := State.endsIn_of_stringOp h
  rw [ends.ioOut, ends.flags]
  obtain rfl | done := performed
  · exact ⟨(ends.touches counted ((State.Touches.refl u).mono (by simp) (by simp))).toFrame, rfl, .inl rfl⟩
  · obtain ⟨touched, flags, event⟩ := outsOnce_touches done
    exact ⟨(ends.touches counted touched).toFrame, flags, .inr event⟩

/-- OUT adds one event and changes nothing else (rules R96, R300). -/
theorem State.out_frame {port : Half} (h : outcome (s.out port w) = .next t) :
    ({ s with ioOut := t.ioOut } : State).Frame t [] [] ∧ t.flags = s.flags ∧ ∃ e, t.ioOut = s.ioOut ++ [e] := by
  obtain ⟨-, -, -, rfl⟩ := State.out_eq_ok.mp (outcome_eq_next.mp h)
  exact ⟨(State.Touches.refl (s.emit ..)).retire.toFrame, rfl, _, rfl⟩

end

open State in
/-- Settles O52: what the primitive touches, and the count register when there is a repeat byte. -/
theorem frameOfStringAndOutputForms : Obligations.FrameOfStringAndOutputForms := by
  intro s t i8 cx
  have counted : s.ctx.rep ≠ none → .ecx ∈ cx := by
    intro rep
    obtain ⟨p, hp⟩ := Option.ne_none_iff_exists'.mp rep
    simp [cx, hp]
  refine ⟨fun q hq h => ?movs, fun q hq h => ?stos, ?scas, ?outs, ?out⟩
  case movs =>
    rw [exec_movs hq] at h
    exact ⟨(stringOp_touches counted movsOnce_touches h).toFrame, stringOp_flags movsOnce_flags h⟩
  case stos =>
    rw [exec_stos hq] at h
    exact ⟨(stringOp_touches counted stosOnce_touches h).toFrame, stringOp_flags stosOnce_flags h⟩
  all_goals simp only [List.forall_mem_cons, List.not_mem_nil, false_imp_iff, implies_true, and_true]
  case scas =>
    exact ⟨fun h => (stringOp_touches counted scasOnce_touches h).toFrame,
      fun h => (stringOp_touches counted scasOnce_touches h).toFrame⟩
  case outs => exact ⟨outs_frame counted, outs_frame counted⟩
  case out => exact ⟨out_frame, out_frame, out_frame, out_frame⟩

end Sys2Proof.Machine
end

section
/-! MUL and TEST (rules R260, R262, R269): the product and the logical flags, and what a form that only reads its r/m
operand completes with or stops in, with the statement about them settled. -/

namespace Sys2Proof.Machine

/-! ### Forms that read their r/m operand only (rule R200) -/

section
variable {s : State} {w : Width} {rm : RM}

theorem State.noLock_readRM_passes (unlocked : s.Unlocked) (may : s.MayRead w (s.place rm)) (f : Word → M State) :
    (do s.noLock; let a ← s.readRM w rm; f a) = f (s.readAt w (s.place rm)) := by
  rw [check_passes (State.noLock_eq_ok.mpr unlocked), State.readRM_eq_ok.mpr ⟨may, rfl⟩, ok_bind]

theorem State.stopsWithCheck_noLock_readRM {i : Instr} {f : Word → M State} (unlocked : s.Unlocked)
    (runs : exec i s = outcome (do s.noLock; let a ← s.readRM w rm; f a)) : s.StopsWithCheck i .read w (s.place rm) :=
  State.stopsWithCheck_read runs fun e h => by
    rw [check_passes (State.noLock_eq_ok.mpr unlocked), State.readRM, check_stops h, error_bind]

end

/-! ### MUL (rule R260) -/

theorem Width.two_pow_bits_le (w : Width) : 2 ^ w.bits ≤ 2 ^ 32 := by cases w <;> decide

/-- The upper half of a product of two values of the width is 0 exactly when the lower half holds the product. -/
theorem upper_ne_zero_iff (w : Width) {a b : Nat} (ha : a < 2 ^ w.bits) (hb : b < 2 ^ w.bits) :
    BitVec.ofNat 32 (a * b / 2 ^ w.bits) ≠ 0 ↔ 2 ^ w.bits ≤ a * b := by
  have upper : a * b / 2 ^ w.bits < 2 ^ w.bits := Nat.div_lt_of_lt_mul (Nat.mul_lt_mul'' ha hb)
  have held : (BitVec.ofNat 32 (a * b / 2 ^ w.bits)).toNat = a * b / 2 ^ w.bits :=
    Nat.mod_eq_of_lt (upper.trans_le w.two_pow_bits_le)
  rw [Ne, ← BitVec.toNat_inj, held]
  exact Nat.div_ne_zero_iff.trans (and_iff_right (Nat.two_pow_pos _).ne')

/-- The product and the flags of MUL by a value of the width. -/
theorem State.mulAcc_eq (s : State) (w : Width) {m : Word} (h : m.toNat < 2 ^ w.bits) :
    ∃ f : Flags, s.flags.KeepsControl f ∧ f.ofl = f.cf ∧
      (f.cf = true ↔ 2 ^ w.bits ≤ (s.reg w .eax).toNat * m.toNat) ∧
      s.mulAcc w m = ((s.setProduct w ((s.reg w .eax).toNat * m.toNat)).setFlags f).drawn :=
  ⟨_, s.flags.mul_keepsControl .., rfl, bne_iff_ne.trans (upper_ne_zero_iff w (s.readAt_lt w (.reg .eax)) h), rfl⟩

theorem State.mulRM_completes {s : State} {w : Width} {rm : RM} (unlocked : s.Unlocked)
    (may : s.MayRead w (s.place rm)) :
    outcome (s.mulRM w rm) = .next (s.mulAcc w (s.readAt w (s.place rm))).retire :=
  outcome_eq_next.mpr (State.noLock_readRM_passes unlocked may fun m => .ok (s.mulAcc w m).retire)

theorem State.setProduct_opWidth (s : State) (p : Nat) :
    s.setProduct s.opWidth p = (s.setReg s.opWidth .edx (BitVec.ofNat 32 (p / 2 ^ s.opWidth.bits))).setReg s.opWidth .eax
      (BitVec.ofNat 32 p) := by
  unfold State.opWidth
  cases s.opSize <;> rfl

/-! ### TEST (rules R262, R269) -/

section
variable {s : State} {w : Width} {rm : RM} {b : Word}

theorem State.testRM_completes (unlocked : s.Unlocked) (may : s.MayRead w (s.place rm)) :
    outcome (s.testRM w rm b) = .next (s.logicFlags w (s.readAt w (s.place rm) &&& b)).retire :=
  outcome_eq_next.mpr (State.noLock_readRM_passes unlocked may fun a => .ok (s.logicFlags w (a &&& b)).retire)

theorem State.testAcc_completes (unlocked : s.Unlocked) :
    outcome (s.testAcc w b) = .next (s.logicFlags w (s.readAt w (.reg .eax) &&& b)).retire :=
  outcome_eq_next.mpr (check_passes (State.noLock_eq_ok.mpr unlocked))

end

open State in
/-- Settles O25: CF of MUL says whether the upper half of the product is 0, and TEST is the check of its operand and
the flags of a logical result. -/
theorem mulAndTestComplete : Obligations.MulAndTestComplete := by
  intro s rm r i8 iv unlocked
  refine ⟨fun may => ?mul8, fun may => ?mul, fun q hq may => ?test, ?stops⟩
  case mul8 =>
    obtain ⟨f, control, ofl, cf, eq⟩ := s.mulAcc_eq .b8 (s.readAt_lt .b8 (s.place rm))
    exact ⟨f, control, ofl, cf, eq ▸ mulRM_completes unlocked may⟩
  case mul =>
    obtain ⟨f, control, ofl, cf, eq⟩ := s.mulAcc_eq s.opWidth (s.readAt_lt s.opWidth (s.place rm))
    rw [setProduct_opWidth] at eq
    exact ⟨f, control, ofl, cf, eq ▸ mulRM_completes unlocked may⟩
  case test =>
    refine ⟨s.flags.logic q.2.1 (s.readAt q.2.1 q.2.2.1 &&& q.2.2.2) s.nextDraw, rfl, rfl,
      s.flags.setSZP_sf .., s.flags.setSZP_zf_iff q.2.1 _, rfl, s.flags.logic_keepsControl .., ?_⟩
    revert q
    simp only [List.forall_mem_cons, List.not_mem_nil, false_imp_iff, implies_true, and_true]
    exact ⟨testRM_completes unlocked, testRM_completes unlocked, testRM_completes unlocked, testRM_completes unlocked,
      fun _ => testAcc_completes unlocked, fun _ => testAcc_completes unlocked⟩
  case stops =>
    simp only [List.forall_mem_cons, List.not_mem_nil, false_imp_iff, implies_true, and_true]
    and_intros <;> exact stopsWithCheck_noLock_readRM unlocked rfl

end Sys2Proof.Machine
end

section
/-! I/O privilege (rule R304): when the protection check denies, and how OUT and OUTS stop with it, with the statement
about it settled. -/

namespace Sys2Proof.Machine

section
variable {s : State}

/-- A denial by the permission map is #GP(0), where that map is asked (rules R97, R304). -/
theorem State.checkIo_denied {port n : Nat} (asks : ¬s.IoFree) (denied : s.ioPermission port n = .ok false) :
    s.checkIo port n = .error (.fault (.exception .generalProtection (some 0))) := by
  rw [State.checkIo_of_not_ioFree asks, denied]
  rfl

/-- OUT makes its protection check first (rules R300, R301). -/
theorem State.out_stops {port : Half} {w : Width} {f : Fault} (unlocked : s.Unlocked)
    (h : s.checkIo port.toNat w.bytes = .error (.fault f)) : outcome (s.out port w) = .fault f := by
  have stops : s.ioWrite port w (s.reg w .eax) = .error (.fault f) := check_stops h
  rw [outcome_eq_fault, State.out, check_passes (State.noLock_eq_ok.mpr unlocked), stops, error_bind]

/-- OUTS makes its protection check first, before the memory read, unless the count leaves nothing to do
(rules R240, R302, R303). -/
theorem outs_stops {stops : RepPrefix → State → Bool} {w : Width} {f : Fault} (unlocked : s.Unlocked)
    (counted : s.ctx.rep ≠ none → s.count ≠ 0) (h : s.checkIo s.dx.toNat w.bytes = .error (.fault f)) :
    outcome (s.stringOp stops (outsOnce w)) = .fault f :=
  outcome_eq_fault.mpr (State.stringOp_stops unlocked (or_iff_not_imp_left.mpr counted) (check_stops h))

end

open State in
/-- Settles O27: the map is asked exactly where an output is not free, and OUT and OUTS make the check first. -/
theorem ioPrivilege : Obligations.IoPrivilege := by
  intro s port n i8
  refine ⟨fun real => ?real, fun prot level => ?prot, fun asks => ⟨fun allowed => ?allowed, fun denied => ?denied⟩,
    fun unlocked => ?stops⟩
  case real => exact checkIo_of_ioFree (.inl real) port n
  case prot => exact checkIo_of_ioFree (.inr ⟨prot, level⟩) port n
  case allowed => exact checkIo_eq_ok.mpr (.inr allowed)
  case denied => exact checkIo_denied (not_ioFree_iff.mpr asks) denied
  case stops =>
    simp only [List.forall_mem_cons, List.not_mem_nil, false_imp_iff, implies_true, and_true]
    exact ⟨fun _ => out_stops unlocked, fun _ => out_stops unlocked, fun _ => out_stops unlocked,
      fun _ => out_stops unlocked, fun counted => outs_stops unlocked (counted (by decide)),
      fun counted => outs_stops unlocked (counted (by decide))⟩

end Sys2Proof.Machine
end

section
/-! PUSH, PUSHA and PUSHF (rules R320, R324, R330 to R338): the check that each form makes and what it leaves when that
passes, with the statements about them settled. -/

namespace Sys2Proof.Machine

section
variable {s : State} {i : Instr}

theorem State.noLock_passes (unlocked : s.Unlocked) {x : M State} : (do s.noLock; x) = x :=
  check_passes (State.noLock_eq_ok.mpr unlocked)

/-- An instruction that makes a check and ends completes when the check passes. -/
theorem exec_of_check {check : M Unit} {u : State} (runs : exec i s = outcome (do check; .ok u))
    (passes : check = .ok ()) : exec i s = .next u := by
  rw [runs, check_passes passes, outcome_ok]

/-! ### Pushes of one item (rules R320, R330) -/

theorem State.push_retire_eq (n : Nat) (v : Word) :
    (do let t ← s.push n v; .ok t.retire : M State) = (do s.checkPush n n; .ok (s.pushed n v).retire) := by
  rw [State.push]
  cases s.checkPush n n <;> rfl

theorem State.pushValue_eq (unlocked : s.Unlocked) (v : Word) :
    s.pushValue v = (do s.checkPush s.opWidth.bytes s.opWidth.bytes; .ok (s.pushed s.opWidth.bytes v).retire) :=
  (State.noLock_passes unlocked).trans (State.push_retire_eq ..)

/-- An instruction whose one check is that of a push. -/
theorem stopsWithPush_of_check {u : State} {n : Nat} (runs : exec i s = outcome (do s.checkPush n n; .ok u)) :
    s.StopsWithPush i n n :=
  State.stopsWithPush_of runs fun _ h => check_stops h

/-! ### PUSH of a segment register (rule R334) -/

/-- The selector pushed at `OpSize`: as a word, or under a drawn upper half. -/
def State.segPushed (s : State) (r : SegReg) : Size → State
  | .s16 => s.pushed 2 ((s.seg r).sel.setWidth 32)
  | .s32 => s.drawn.pushed 4 (s.nextDraw.extractLsb' 16 16 ++ (s.seg r).sel)

theorem State.opWidth_bytes (s : State) : s.opWidth.bytes = if s.opSize = .s16 then 2 else 4 := by
  rw [State.opWidth]
  cases s.opSize <;> rfl

theorem State.pushSeg_eq (unlocked : s.Unlocked) (r : SegReg) :
    s.pushSeg r =
      (do s.checkPush s.opWidth.bytes s.opWidth.bytes; .ok (s.segPushed r s.opSize).retire) := by
  rw [State.pushSeg, State.noLock_passes unlocked, s.opWidth_bytes]
  cases s.opSize with
  | s16 => exact State.push_retire_eq ..
  | s32 => exact State.push_retire_eq (s := s.drawn) ..

/-! ### PUSH of an r/m operand (rules R324, R332) -/

/-- The read check stands before that of the push. -/
theorem execPushRm_eq {rm : RM} (unlocked : s.Unlocked) (h : espBased rm = false) :
    exec (.pushRm rm) s = outcome (do
      s.checkRead s.opWidth (s.place rm)
      s.checkPush s.opWidth.bytes s.opWidth.bytes
      .ok (s.pushed s.opWidth.bytes (s.readAt s.opWidth (s.place rm))).retire) := by
  change outcome (do s.noLock; _) = _
  rw [State.noLock_passes unlocked, h, State.readRM]
  cases s.checkRead s.opWidth (s.place rm) with
  | error e => rfl
  | ok a => exact congrArg outcome (State.pushValue_eq unlocked _)

theorem execPushRm_espBased {rm : RM} (unlocked : s.Unlocked) (h : espBased rm = true) :
    exec (.pushRm rm) s = .refused .espOperand := by
  refine outcome_eq_refused.mpr ?_
  rw [State.noLock_passes unlocked, h]
  rfl

theorem execPushRm_eq_of_mayRead {rm : RM} (unlocked : s.Unlocked) (h : espBased rm = false)
    (may : s.MayRead s.opWidth (s.place rm)) :
    exec (.pushRm rm) s = outcome (s.pushValue (s.readAt s.opWidth (s.place rm))) := by
  rw [execPushRm_eq unlocked h, check_passes (State.checkRead_eq_ok.mpr may), State.pushValue_eq unlocked]

end

open State in
/-- Settles O29: every form makes the check of one push; that of an r/m operand is read before it. -/
theorem pushCompletes : Obligations.PushCompletes := by
  intro s rm r i8 iv unlocked
  have runsValue {i v} (h : exec i s = outcome (s.pushValue v)) := h.trans (congrArg outcome (pushValue_eq unlocked v))
  have runsSeg {i x} (h : exec i s = outcome (s.pushSeg x)) := h.trans (congrArg outcome (pushSeg_eq unlocked x))
  refine ⟨execPushRm_espBased unlocked, fun may => ⟨fun q hq => ?values, fun notEsp mayRead => ?operand,
    fun q hq => ?segments⟩, ?stops, fun notEsp => ⟨?readStops, fun mayRead => ?operandStops⟩⟩
  case values => exact exec_of_check (runsValue (exec_of_table s.pushValue rfl hq)) (checkPush_eq_ok.mpr may)
  case operand =>
    exact exec_of_check (runsValue (execPushRm_eq_of_mayRead unlocked notEsp mayRead)) (checkPush_eq_ok.mpr may)
  case segments =>
    have done := exec_of_check (runsSeg (exec_of_table s.pushSeg rfl hq)) (checkPush_eq_ok.mpr may)
    exact ⟨fun size => by rw [done, size]; rfl, fun size => ⟨_, by rw [done, size]; rfl⟩⟩
  case stops =>
    simp only [List.forall_mem_cons, List.not_mem_nil, false_imp_iff, implies_true, and_true]
    have value {i v} (h : exec i s = outcome (s.pushValue v)) := stopsWithPush_of_check (runsValue h)
    have segment {i x} (h : exec i s = outcome (s.pushSeg x)) := stopsWithPush_of_check (runsSeg h)
    exact ⟨value rfl, value rfl, value rfl, segment rfl, segment rfl, segment rfl, segment rfl, segment rfl,
      segment rfl⟩
  case readStops => exact stopsWithCheck_read (execPushRm_eq unlocked notEsp) fun _ h => check_stops h
  case operandStops => exact stopsWithPush_of_check (runsValue (execPushRm_eq_of_mayRead unlocked notEsp mayRead))

/-! ### PUSH (E)SP (rule R335) -/

/-- Settles O30: both encodings push the register as the state before the instruction holds it. -/
theorem pushOldStackPointer : Obligations.PushOldStackPointer := by
  intro s o a rest
  refine ⟨decodeEncode o a (.pushReg .esp) rest rfl, decodeEncode o a (.pushRm (.reg .esp)) rest rfl,
    fun unlocked may i hi => ?_⟩
  have runs : exec i s = outcome (s.pushValue (s.reg s.opWidth .esp)) := by
    simp only [List.mem_cons, List.not_mem_nil, or_false] at hi
    obtain rfl | rfl := hi
    · rfl
    · exact execPushRm_eq_of_mayRead unlocked rfl trivial
  rw [State.pushValue_eq unlocked] at runs
  have done := exec_of_check runs (State.checkPush_eq_ok.mpr may)
  rw [State.opWidth] at done
  exact ⟨fun size => by rw [done, size]; rfl, fun size => by rw [done, size]; rfl⟩

/-! ### PUSHF (rules R26, R338) -/

theorem State.checkFlagAccess_passes {s : State} (may : s.mode = .v86 → s.flags.iopl = 3) :
    s.checkFlagAccess = .ok () := if_neg fun ⟨v86, low⟩ => low (may v86)

theorem State.checkFlagAccess_denies {s : State} (v86 : s.mode = .v86) (low : s.flags.iopl ≠ 3) :
    s.checkFlagAccess = raiseGP0 := if_pos ⟨v86, low⟩

/-- The check of the push is the same before and after the draw of the reserved bits. -/
theorem execPushf_eq {s : State} (unlocked : s.Unlocked) (may : s.mode = .v86 → s.flags.iopl = 3) :
    exec .pushf s = outcome (do
      s.checkPush s.opWidth.bytes s.opWidth.bytes
      .ok (s.drawn.pushed s.opWidth.bytes (s.flags.image s.cfg s.nextDraw)).retire) := by
  change outcome (do s.noLock; s.checkFlagAccess; _) = _
  rw [State.noLock_passes unlocked, check_passes (State.checkFlagAccess_passes may)]
  exact congrArg outcome (State.push_retire_eq (s := s.drawn) ..)

theorem getLsbD_bitAt (n : Nat) (b : Bool) {i : Nat} (h : i < 32) : (bitAt n b).getLsbD i = (b && decide (i = n)) := by
  cases b with
  | false => simp [bitAt, bit0]
  | true =>
    rw [Bool.eq_iff_iff]
    simp [bitAt, bit0, h]
    omega

/-- The image bit by bit: each flag at its place, and the draw under the mask of the reserved bits. -/
theorem Flags.getLsbD_image (f : Flags) (c : Config) (draw : Word) {i : Nat} (h : i < 32) :
    (f.image c draw).getLsbD i =
      (f.cf && decide (i = 0) || f.pf && decide (i = 2) || f.af && decide (i = 4) || f.zf && decide (i = 6) ||
        f.sf && decide (i = 7) || f.tf && decide (i = 8) || f.ifl && decide (i = 9) || f.df && decide (i = 10) ||
        f.ofl && decide (i = 11) || (!decide (i < 12) && f.iopl.getLsbD (i - 12)) || f.nt && decide (i = 14) ||
        f.rf && decide (i = c.rfBit) || f.vm && decide (i = c.vmBit) ||
        draw.getLsbD i && reservedFlags.getLsbD i) := by
  have iopl : (f.iopl.setWidth 32 <<< 12).getLsbD i = (!decide (i < 12) && f.iopl.getLsbD (i - 12)) := by
    have : i - 12 < 32 := by omega
    simp only [BitVec.getLsbD_shiftLeft, BitVec.getLsbD_setWidth, h, this, decide_true, Bool.true_and]
  simp only [Flags.image, BitVec.getLsbD_or, BitVec.getLsbD_and, getLsbD_bitAt _ _ h, iopl]

theorem Flags.image_defined (f : Flags) {c : Config} (rf : c.rfBit = 16) (vm : c.vmBit = 17) (draw : Word) :
    let v := f.image c draw
    v.getLsbD 0 = f.cf ∧ v.getLsbD 2 = f.pf ∧ v.getLsbD 4 = f.af ∧ v.getLsbD 6 = f.zf ∧ v.getLsbD 7 = f.sf ∧
      v.getLsbD 8 = f.tf ∧ v.getLsbD 9 = f.ifl ∧ v.getLsbD 10 = f.df ∧ v.getLsbD 11 = f.ofl ∧
      v.extractLsb' 12 2 = f.iopl ∧ v.getLsbD 14 = f.nt ∧ v.getLsbD 16 = f.rf ∧ v.getLsbD 17 = f.vm := by
  have iopl : (f.image c draw).extractLsb' 12 2 = f.iopl := by
    refine BitVec.eq_of_getLsbD_eq fun i hi => ?_
    rw [BitVec.getLsbD_extractLsb', f.getLsbD_image c draw (by omega)]
    obtain rfl | rfl : i = 0 ∨ i = 1 := by omega
    all_goals simp [reservedFlags, rf, vm]
  refine ⟨?_, ?_, ?_, ?_, ?_, ?_, ?_, ?_, ?_, iopl, ?_, ?_, ?_⟩ <;>
    rw [f.getLsbD_image c draw (by decide)] <;> simp [reservedFlags, rf, vm]

/-! ### PUSHA (rule R336) -/

theorem execPusha_eq {s : State} (unlocked : s.Unlocked) :
    exec .pusha s = outcome (do
      s.checkPushes s.opWidth.bytes 8
      .ok (s.pushedAll s.opWidth.bytes (pushaOrder.map (s.reg s.opWidth))).retire) :=
  congrArg outcome (State.noLock_passes unlocked)

open State in
/-- Settles O31: PUSHA makes the checks of its eight stores at once; the flags stand in the image at their places. -/
theorem pushAllAndFlagsComplete : Obligations.PushAllAndFlagsComplete := by
  intro s unlocked
  refine ⟨fun may => exec_of_check (execPusha_eq unlocked) (checkPushes_eq_ok.mpr fun j hj => may (j + 1) ?_ ?_),
    fun rf vm low may => ?flags, stopsWithPushes_of (execPusha_eq unlocked) fun _ h => check_stops h,
    fun low => stopsWithPush_of_check (execPushf_eq unlocked low)⟩
  case flags =>
    obtain ⟨cf, pf, af, zf, sf, tf, ifl, df, ofl, iopl, nt, rf, vm⟩ := s.flags.image_defined rf vm s.nextDraw
    exact ⟨_, cf, pf, af, zf, sf, tf, ifl, df, ofl, iopl, nt, rf, vm,
      exec_of_check (execPushf_eq unlocked low) (checkPush_eq_ok.mpr may)⟩
  all_goals omega

end Sys2Proof.Machine
end

section
/-! POP, POPA and POPF (rules R321 to R324, R337, R340) and the instructions that reach IF and IOPL (rules R442, R500):
the check that each form makes and what it leaves when that passes, with the statements about them settled. -/

namespace Sys2Proof.Machine

section
variable {s : State} {i : Instr}

/-- An instruction whose one check is that of a stack read. -/
theorem stopsWithPop_of_check {x : M State} {k n : Nat} (runs : exec i s = outcome (do s.checkPop k n; x)) :
    s.StopsWithPop i k n :=
  State.stopsWithPop_of runs fun _ h => check_stops h

/-! ### POP (rules R322 to R324) -/

theorem execPopRm_reg (r : Reg) : exec (.popRm (.reg r)) s = exec (.popReg r) s := rfl

theorem execPopReg_esp (unlocked : s.Unlocked) : exec (.popReg .esp) s = .refused .espOperand :=
  outcome_eq_refused.mpr (State.noLock_passes unlocked)

theorem execPopReg_eq (unlocked : s.Unlocked) {r : Reg} (h : r ≠ .esp) :
    exec (.popReg r) s = outcome (do
      s.checkPop 0 s.opWidth.bytes
      .ok ((Place.reg r).finish s.opWidth (s.item 0 s.opWidth.bytes, s.popped s.opWidth.bytes))) := by
  change outcome (do s.noLock; s.popInto r) = _
  rw [State.noLock_passes unlocked, State.popInto, if_neg h]
  rfl

theorem execPopRm_espBased (unlocked : s.Unlocked) {m : Mem} (h : espBased (.mem m) = true) :
    exec (.popRm (.mem m)) s = .refused .espOperand := by
  refine outcome_eq_refused.mpr ((State.noLock_passes unlocked).trans ?_)
  change s.popMem m = _
  rw [State.popMem, if_pos h]
  rfl

/-- The limit of the stack item stands before the checks of rule R72 on the item and on the destination. -/
theorem execPopRm_mem (unlocked : s.Unlocked) {m : Mem} (h : espBased (.mem m) = false) :
    exec (.popRm (.mem m)) s = outcome (do
      s.checkPopLimit 0 s.opWidth.bytes
      s.checkTwo s.opWidth (.mem .ss (s.stackUp 0)) (s.place (.mem m))
      .ok ((s.writeAt s.opWidth (s.place (.mem m)) (s.item 0 s.opWidth.bytes)).popped s.opWidth.bytes).retire) := by
  change outcome (do s.noLock; s.popMem m) = _
  rw [State.noLock_passes unlocked, State.popMem, h]
  rfl

theorem execPopRm_mem_inside (unlocked : s.Unlocked) {m : Mem} (h : espBased (.mem m) = false)
    (inside : s.inLimit .ss (s.stackUp 0) s.opWidth.bytes = true) :
    exec (.popRm (.mem m)) s = outcome (do
      s.checkTwo s.opWidth (.mem .ss (s.stackUp 0)) (s.place (.mem m))
      .ok ((s.writeAt s.opWidth (s.place (.mem m)) (s.item 0 s.opWidth.bytes)).popped s.opWidth.bytes).retire) := by
  rw [execPopRm_mem unlocked h, check_passes (State.checkPopLimit_eq_ok.mpr inside)]

end

open State in
/-- Settles O32: a register is loaded after the one check of the stack read; for memory, the limit of the item is tested
first and the rest of that check is one of the two operand checks. -/
theorem popCompletes : Obligations.PopCompletes := by
  intro s r m unlocked
  simp only [List.forall_mem_cons, List.not_mem_nil, false_imp_iff, implies_true, and_true, execPopRm_reg, and_self]
  refine ⟨execPopReg_esp unlocked, execPopRm_espBased unlocked, fun may => ⟨fun notEsp => ?register,
    fun notEsp mayWrite => ?memory⟩, fun notEsp => ?registerStops, fun notEsp => ⟨fun out => ?limitStops,
    fun inside => stopsWithTwo_of (execPopRm_mem_inside unlocked notEsp inside) fun _ h => check_stops h⟩⟩
  case register => exact exec_of_check (execPopReg_eq unlocked notEsp) (checkPop_eq_ok.mpr may)
  case memory =>
    exact exec_of_check (execPopRm_mem_inside unlocked notEsp may.inside) (checkTwo_eq_ok.mpr ⟨may, mayWrite⟩)
  case registerStops =>
    have runs := execPopReg_eq unlocked notEsp
    exact ⟨stopsWithPop_of_check runs, stopsWithPop_of_check ((execPopRm_reg r).trans runs)⟩
  case limitStops =>
    rw [execPopRm_mem unlocked notEsp, checkPopLimit_out out, s.segFault_ss]
    rfl

/-! ### POPA (rule R337) -/

/-- The registers that POPA loads, the stack pointer's item left out. -/
theorem State.loadItems_popa (s : State) (n : Nat) :
    s.loadItems s n 0 pushaOrder.reverse =
      (((((((s.setReg s.opWidth .edi (s.item (0 * n) n)).setReg s.opWidth .esi (s.item (1 * n) n)).setReg s.opWidth .ebp
        (s.item (2 * n) n)).setReg s.opWidth .ebx (s.item (4 * n) n)).setReg s.opWidth .edx (s.item (5 * n) n)).setReg
        s.opWidth .ecx (s.item (6 * n) n)).setReg s.opWidth .eax (s.item (7 * n) n)) := by
  have order : pushaOrder.reverse = [.edi, .esi, .ebp, .esp, .ebx, .edx, .ecx, .eax] := rfl
  simp only [order, State.loadItems, reduceCtorEq, if_true, if_false, Nat.reduceAdd]

theorem execPopa_eq {s : State} (unlocked : s.Unlocked) :
    exec .popa s = outcome (do
      s.checkPops s.opWidth.bytes 8
      .ok ((s.loadItems s s.opWidth.bytes 0 pushaOrder.reverse).popped (8 * s.opWidth.bytes)).retire) :=
  congrArg outcome (State.noLock_passes unlocked)

/-! ### POPF (rule R340) -/

/-- The flags that POPF leaves: IF and IOPL with the privilege only, RF and VM never. -/
theorem execPopf_eq {s : State} (unlocked : s.Unlocked) (may : s.mode = .v86 → s.flags.iopl = 3) :
    exec .popf s = outcome (do
      s.checkPop 0 s.opWidth.bytes
      .ok ((s.setFlags (s.flags.popped (s.item 0 s.opWidth.bytes)
        (decide (s.mode = .real ∨ s.cpl.toNat ≤ s.flags.iopl.toNat)) (decide (s.mode = .real ∨ s.cpl = 0)))).popped
          s.opWidth.bytes).retire) := by
  change outcome (do s.noLock; s.checkFlagAccess; _) = _
  rw [State.noLock_passes unlocked, check_passes (State.checkFlagAccess_passes may)]

open State in
/-- Settles O33: POPA makes the checks of its eight reads at once, POPF that of one. -/
theorem popAllAndFlagsComplete : Obligations.PopAllAndFlagsComplete := by
  intro s unlocked
  refine ⟨fun may => ?registers, fun low may => ?flags,
    stopsWithPops_of (execPopa_eq unlocked) fun _ h => check_stops h,
    fun low => stopsWithPop_of_check (execPopf_eq unlocked low)⟩
  case registers =>
    have done := exec_of_check (execPopa_eq unlocked) (checkPops_eq_ok.mpr may)
    rwa [s.loadItems_popa] at done
  case flags =>
    have done := exec_of_check (execPopf_eq unlocked low) (checkPop_eq_ok.mpr may)
    simpa only [Flags.popped, State.setFlags, decide_eq_true_eq] using done

/-! ### The privilege of the flags (rules R338, R340, R442, R500) -/

section
variable {s : State}

theorem State.checkIfAccess_denies
    (h : s.mode = .prot ∧ s.flags.iopl.toNat < s.cpl.toNat ∨
      s.mode = .v86 ∧ s.cfg.v86StiFaults = true ∧ s.flags.iopl ≠ 3) : s.checkIfAccess = raiseGP0 := by
  rw [State.checkIfAccess]
  rcases h with ⟨mode, above⟩ | ⟨mode, faults, low⟩
  · rw [mode]
    exact if_pos above
  · rw [mode]
    exact if_pos (by simpa [faults] using low)

/-- An instruction whose first check is denied with #GP(0). -/
theorem State.denied_check (unlocked : s.Unlocked) {check : M Unit} (h : check = raiseGP0) (rest : M State) :
    outcome (do s.noLock; check; rest) = .fault (.exception .generalProtection (some 0)) := by
  rw [State.noLock_passes unlocked, h]
  rfl

end

open State in
/-- Settles O43: STI and CLI make one privilege check first, PUSHF and POPF another. -/
theorem flagAccessFaults : Obligations.FlagAccessFaults := by
  intro s unlocked
  simp only [List.forall_mem_cons, List.not_mem_nil, false_imp_iff, implies_true, and_true]
  have sti (h) := denied_check unlocked (checkIfAccess_denies (s := s) h)
  have flags (v86 : s.mode = .v86) (low : s.flags.iopl ≠ 3) :=
    denied_check unlocked (checkFlagAccess_denies v86 low)
  exact ⟨⟨⟨fun mode above => sti (.inl ⟨mode, above⟩) _, fun mode faults low => sti (.inr ⟨mode, faults, low⟩) _⟩,
    ⟨fun mode above => sti (.inl ⟨mode, above⟩) _, fun mode faults low => sti (.inr ⟨mode, faults, low⟩) _⟩⟩,
    fun mode low => flags mode low _, fun mode low => flags mode low _⟩

end Sys2Proof.Machine
end

section
/-! RET near, and RET far outside protected mode (rules R400 to R404, R408, R409), with the statement about them
settled. -/

namespace Sys2Proof.Machine

section
variable {s : State} {imm : Nat}

/-! ### RET near (rules R400, R401, R404) -/

@[simp] theorem State.codeLimit_popped (s : State) (k : Nat) : (s.popped k).codeLimit = s.codeLimit := by
  simp [State.codeLimit_eq, State.popped, State.setSp]

theorem State.codeFault_eq (s : State) :
    s.codeFault = .exception .generalProtection (if s.mode = .real then none else some 0) := by
  rw [State.codeFault, s.zeroCode_eq]

theorem State.codeFault_popped (s : State) (k : Nat) : (s.popped k).codeFault = s.codeFault := by
  simp [State.codeFault_eq, State.popped, State.setSp]

theorem State.retNear_eq (unlocked : s.Unlocked) :
    s.retNear imm = (do
      s.checkPop 0 s.opWidth.bytes
      (s.popped (s.opWidth.bytes + imm)).jump (s.item 0 s.opWidth.bytes)) :=
  State.noLock_passes unlocked

/-- The pointer does not matter to the limit and the fault of the transfer. -/
theorem State.popped_jump_eq (s : State) (k : Nat) (t : Word) :
    (s.popped k).jump t =
      if t.toNat ≤ s.codeLimit then .ok ((s.popped k).jumpTo t) else .error (.fault s.codeFault) := by
  rw [State.jump, s.codeLimit_popped, s.codeFault_popped]

/-! ### RET far outside protected mode (rules R402, R403) -/

/-- The low word of the item, whatever its size, is the word in its place (rule R73). -/
theorem State.returnSel_eq (s : State) :
    s.returnSel = (s.item s.opWidth.bytes s.opWidth.bytes).extractLsb' 0 16 := by
  have low (a b c d : Nat) : (BitVec.ofNat 32 (loadBytes s.mem [a, b])).extractLsb' 0 16 =
      (BitVec.ofNat 32 (loadBytes s.mem [a, b, c, d])).extractLsb' 0 16 := by
    rw [← BitVec.toNat_inj]
    simp [loadBytes]
    omega
  rw [State.returnSel]
  rcases ite_eq_or_eq (s.opSize = .s16) 2 4 with size | size <;> rw [← s.opWidth_bytes] at size
  · rw [size]
  · rw [size]
    exact low ..

theorem State.retFar_eq_of_not_prot (unlocked : s.Unlocked) (m : s.mode ≠ .prot) :
    s.retFar imm = s.retFarReal imm := by
  refine (State.noLock_passes unlocked).trans ?_
  cases h : s.mode with
  | prot => exact absurd h m
  | real | v86 => rfl

/-- Once both items may be read, an offset of 32 bits above 0FFFFH faults. -/
theorem State.retFarReal_eq (may : s.checkPops s.opWidth.bytes 2 = .ok ()) :
    s.retFarReal imm =
      if 0xFFFF < (s.item 0 s.opWidth.bytes).toNat then .error (.fault s.codeFault)
      else .ok (((s.setSeg .cs (realSegment s.returnSel)).popped (2 * s.opWidth.bytes + imm)).jumpTo
        (s.item 0 s.opWidth.bytes)) := by
  rw [State.retFarReal, check_passes may]
  split <;> rfl

theorem State.checkPops_two {n : Nat} (first : s.MayPop 0 n) (second : s.MayPop n n) : s.checkPops n 2 = .ok () := by
  refine State.checkPops_eq_ok.mpr fun j hj => ?_
  obtain rfl | rfl : j = 0 ∨ j = 1 := by omega
  · rwa [zero_mul]
  · rwa [one_mul]

end

open State in
/-- Settles O36: the near form tests its target against the code limit, the far form against 0FFFFH, which is the code
limit outside protected mode. -/
theorem nearAndRealFarReturnsComplete : Obligations.NearAndRealFarReturnsComplete := by
  intro s imm unlocked k t limit gp
  have limitEq : s.codeLimit = limit := s.codeLimit_eq
  have fault : outcome (.error (.fault s.codeFault)) = gp := by rw [s.codeFault_eq]; rfl
  refine ⟨?nearStops, fun m => ?farStops, fun may q hq => ?near, fun m first second q hq => ?far⟩
  case nearStops =>
    simp only [List.forall_mem_cons, List.not_mem_nil, false_imp_iff, implies_true, and_true]
    have stops {imm i} (runs : exec i s = outcome (s.retNear imm)) :=
      stopsWithPop_of_check (runs.trans (congrArg outcome (retNear_eq unlocked)))
    exact ⟨stops rfl, stops rfl⟩
  case farStops =>
    simp only [List.forall_mem_cons, List.not_mem_nil, false_imp_iff, implies_true, and_true]
    have stops {imm i} (runs : exec i s = outcome (s.retFar imm)) :=
      stopsWithPops_of (runs.trans (congrArg outcome (retFar_eq_of_not_prot unlocked m))) fun _ h => check_stops h
    exact ⟨stops rfl, stops rfl⟩
  case near =>
    have runs : exec q.1 s = outcome (s.retNear q.2) := exec_of_table s.retNear rfl hq
    rw [retNear_eq unlocked, check_passes (checkPop_eq_ok.mpr may), popped_jump_eq, limitEq] at runs
    refine ⟨fun within => ?_, fun above => ?_⟩
    · rw [runs, if_pos within]
      rfl
    · rw [runs, if_neg (Nat.not_le.mpr above), fault]
  case far =>
    have runs : exec q.1 s = outcome (s.retFar q.2) := exec_of_table s.retFar rfl hq
    have limitReal : limit = 0xFFFF := if_neg m
    rw [retFar_eq_of_not_prot unlocked m, retFarReal_eq (checkPops_two first second), s.returnSel_eq,
      ← limitReal] at runs
    refine ⟨fun within => ?_, fun above => ?_⟩
    · rw [runs, if_neg (Nat.not_lt.mpr within)]
      rfl
    · rw [runs, if_pos above, fault]

end Sys2Proof.Machine
end

section
/-! The frames of the stack and control forms (rules R205, R211, R213, R320 to R340, R402 to R407, R441, R442, R519 to
R532), with the statement about them settled. -/

namespace Sys2Proof.Machine

/-! ### Frames in sequence -/

section
variable {s t u : State} {rs rs' : List Reg} {bs bs' : List Nat}

theorem State.Touches.trans (a : s.Touches t rs bs) (b : t.Touches u rs' bs') :
    s.Touches u (rs ++ rs') (bs ++ bs') where
  system := {
    cfg := b.system.cfg.trans a.system.cfg
    gdtr := b.system.gdtr.trans a.system.gdtr
    idtr := b.system.idtr.trans a.system.idtr
    ldtr := b.system.ldtr.trans a.system.ldtr
    taskr := b.system.taskr.trans a.system.taskr
    cr0 := b.system.cr0.trans a.system.cr0
    cr2 := b.system.cr2.trans a.system.cr2
    cr3 := b.system.cr3.trans a.system.cr3
    dr := fun d => (b.system.dr d).trans (a.system.dr d)
    cpl := b.system.cpl.trans a.system.cpl
    busyPin := b.system.busyPin.trans a.system.busyPin
    errorPin := b.system.errorPin.trans a.system.errorPin
    intrPending := b.system.intrPending.trans a.system.intrPending
    nmiPending := b.system.nmiPending.trans a.system.nmiPending }
  segs := b.segs.trans a.segs
  regs := fun r h => by
    rw [List.mem_append, not_or] at h
    exact (b.regs r h.2).trans (a.regs r h.1)
  bytes := fun x h => by
    rw [List.mem_append, not_or] at h
    exact (b.bytes x h.2).trans (a.bytes x h.1)
  control := a.control.trans b.control
  ioOut := b.ioOut.trans a.ioOut
  wf := b.wf ∘ a.wf

/-! ### Frames beside a register that the instruction loads -/

theorem State.Touches.besideSeg {r : SegReg} {x : Segment} (h : (s.setSeg r x).Touches t rs bs) :
    (s.setSeg r (t.seg r)).Frame t rs bs := by
  have loaded : t.seg r = x := by simp [State.seg, h.segs]
  rw [loaded]
  exact h.toFrame

theorem State.Touches.besideCreg {c : CReg} {v : Word} (h : (s.setCreg c v).Touches t rs bs) :
    (s.setCreg c (t.creg c)).Frame t rs bs := by
  have loaded : t.creg c = v := by
    rw [← s.setCreg_creg c v]
    cases c with
    | cr0 => exact h.system.cr0
    | cr2 => exact h.system.cr2
    | cr3 => exact h.system.cr3
  rw [loaded]
  exact h.toFrame

theorem State.Touches.besideDreg {d : DReg} {v : Word} (h : (s.setDreg d v).Touches t rs bs) :
    (s.setDreg d (t.dreg d)).Frame t rs bs := by
  have loaded : t.dreg d = v := by
    rw [h.system.dr d]
    cases d <;> rfl
  rw [loaded]
  exact h.toFrame

/-- The segment registers and CPL, which a far return loads. -/
theorem State.Touches.besideSegs {g : Segments} {level : BitVec 2}
    (h : ({ s with segs := g, cpl := level } : State).Touches t rs bs) :
    ({ s with segs := t.segs, cpl := t.cpl } : State).Frame t rs bs := by
  rw [h.segs, h.system.cpl]
  exact h.toFrame

/-- The segment registers may change on both sides of a frame. -/
theorem State.Touches.withSegs (h : s.Touches t rs bs) (g : Segments) :
    ({ s with segs := g } : State).Touches { t with segs := g } rs bs where
  system := { h.system with dr := h.system.dr }
  segs := rfl
  regs := h.regs
  bytes := h.bytes
  control := h.control
  ioOut := h.ioOut
  wf := h.wf

end

/-! ### PUSH, PUSHF and PUSHA (rules R320, R334, R336, R338) -/

section
variable {s t : State}

theorem State.drawn_pushed_touches (s : State) (n : Nat) (v : Word) :
    s.Touches (s.drawn.pushed n v) [.esp] (s.addrs .ss (s.stackDown n) n) :=
  (State.Touches.refl s).drawn.trans (s.drawn.pushed_touches n v)

theorem State.segPushed_touches (s : State) (r : SegReg) :
    s.Touches (s.segPushed r s.opSize) [.esp] (s.addrs .ss (s.stackDown s.opWidth.bytes) s.opWidth.bytes) := by
  rw [s.opWidth_bytes]
  cases s.opSize with
  | s16 => exact s.pushed_touches ..
  | s32 => exact s.drawn_pushed_touches ..

theorem State.pushSeg_touches {r : SegReg} (h : outcome (s.pushSeg r) = .next t) :
    s.Touches t [.esp] (s.addrs .ss (s.stackDown s.opWidth.bytes) s.opWidth.bytes) := by
  have ⟨unlocked, _⟩ := check_eq_ok.mp (outcome_eq_next.mp h)
  rw [State.pushSeg_eq (State.noLock_eq_ok.mp unlocked), outcome_eq_next] at h
  obtain ⟨-, rfl⟩ := check_ok_eq_ok.mp h
  exact (s.segPushed_touches r).retire

theorem execPushf_touches (h : exec .pushf s = .next t) :
    s.Touches t [.esp] (s.addrs .ss (s.stackDown s.opWidth.bytes) s.opWidth.bytes) := by
  have ⟨_, h⟩ := check_eq_ok.mp (outcome_eq_next.mp h)
  have ⟨_, h⟩ := check_eq_ok.mp h
  rw [State.push_retire_eq] at h
  obtain ⟨-, rfl⟩ := check_ok_eq_ok.mp h
  exact (s.drawn_pushed_touches ..).retire

/-- A 16- or 32-bit register reads as the low bits of what was written to it (rules R20, R22). -/
theorem State.reg_setReg (s : State) {w : Width} (h : w ≠ .b8) (r : Reg) (v : Word) :
    (s.setReg w r v).reg w r = w.trunc v := by
  cases w with
  | b8 => exact absurd rfl h
  | w16 =>
    refine BitVec.eq_of_getLsbD_eq fun i hi => ?_
    simp only [State.reg, Width.trunc, State.get_setReg_w16, BitVec.getLsbD_setWidth, BitVec.getLsbD_extractLsb',
      Nat.zero_add, getLsbD_mergeLow16 _ _ hi]
    by_cases low : i < 16 <;> simp [low]
  | d32 => exact s.get_setReg_d32 r v

theorem State.stackWidth_ne_b8 (s : State) : s.stackWidth ≠ .b8 := by
  rw [s.stackWidth_eq]
  split <;> decide

/-- The offset `m` bytes below the top after a push of `n` bytes (rule R320). -/
theorem State.stackDown_pushed (s : State) (n : Nat) (v : Word) (m : Nat) :
    (s.pushed n v).stackDown m = s.stackDown (n + m) := by
  have width : (s.pushed n v).stackWidth = s.stackWidth := by
    rw [s.pushed_eq]
    exact State.stackWidth_congr (by simp) (by simp)
  have top : (s.pushed n v).sp = s.stackDown n := by
    rw [State.sp, width, s.pushed_eq, State.reg_setReg _ s.stackWidth_ne_b8, ← BitVec.toNat_inj]
    simp [State.stackDown]
  rw [← BitVec.toNat_inj, ← Int.ofNat_inj]
  simp only [State.stackDown, width, top, Width.trunc_sub_toNat]
  rw [Int.emod_sub_emod, sub_sub, Nat.cast_add]

/-- Pushes one after the other touch the pointer and the bytes of their items below the old top (rule R336). -/
theorem State.pushedAll_touches (s : State) (n : Nat) (vs : List Word) :
    s.Touches (s.pushedAll n vs) [.esp]
      ((List.range vs.length).flatMap fun j => s.addrs .ss (s.stackDown ((j + 1) * n)) n) := by
  induction vs generalizing s with
  | nil => exact (State.Touches.refl s).mono (by simp) (by simp)
  | cons v vs ih =>
    have first := s.pushed_touches n v
    have bytes (j : Nat) : (s.pushed n v).addrs .ss ((s.pushed n v).stackDown ((j + 1) * n)) n =
        s.addrs .ss (s.stackDown ((j + 1 + 1) * n)) n := by
      rw [s.stackDown_pushed, State.addrs_congr first.segs first.system.cfg, Nat.add_comm n, ← Nat.succ_mul]
    refine (first.trans (ih _)).mono (by simp) ?_
    rw [List.length_cons, List.range_succ_eq_map, List.flatMap_cons, List.flatMap_map]
    simp [bytes]

theorem execPusha_touches (h : exec .pusha s = .next t) :
    s.Touches t [.esp] ((List.range 8).flatMap fun j =>
      s.addrs .ss (s.stackDown ((j + 1) * s.opWidth.bytes)) s.opWidth.bytes) := by
  have ⟨_, h⟩ := check_eq_ok.mp (outcome_eq_next.mp h)
  obtain ⟨-, rfl⟩ := check_ok_eq_ok.mp h
  exact (s.pushedAll_touches ..).retire

/-! ### POP, POPA and POPF (rules R322, R323, R326, R337, R340) -/

theorem execPopRm_touches {m : Mem} (h : exec (.popRm (.mem m)) s = .next t) :
    s.Touches t [.esp] (s.placeAddrs s.opWidth (s.place (.mem m))) :=
  have ⟨_, h⟩ := check_eq_ok.mp (outcome_eq_next.mp h)
  State.popMem_touches h

theorem State.loadItems_touches (t s : State) (n k : Nat) (rs : List Reg) : t.Touches (t.loadItems s n k rs) rs [] := by
  induction rs generalizing t k with
  | nil => exact State.Touches.refl t
  | cons r rs ih =>
    refine State.Touches.trans (rs := [r]) (bs := []) ?_ (ih _ _)
    split
    · exact (State.Touches.refl t).mono (by simp) (by simp)
    · exact Place.regs_ofSize s.opSize r ▸ (State.Touches.refl t).setReg (w := s.opWidth) (r := r)

theorem execPopa_touches (h : exec .popa s = .next t) :
    s.Touches t [.edi, .esi, .ebp, .ebx, .edx, .ecx, .eax, .esp] [] := by
  have ⟨_, h⟩ := check_eq_ok.mp (outcome_eq_next.mp h)
  obtain ⟨-, rfl⟩ := check_ok_eq_ok.mp h
  exact (s.loadItems_touches s ..).popped.retire.mono (by decide) (by simp)

theorem execPopf_frame (h : exec .popf s = .next t) : ({ s with flags := t.flags } : State).Frame t [.esp] [] := by
  have ⟨_, h⟩ := check_eq_ok.mp (outcome_eq_next.mp h)
  have ⟨_, h⟩ := check_eq_ok.mp h
  obtain ⟨-, rfl⟩ := check_ok_eq_ok.mp h
  rw [State.retire_flags, State.popped_flags]
  exact (State.Touches.refl (s.setFlags _)).popped.retire.toFrame

theorem State.popSeg_frame {r : SegReg} (h : outcome (s.popSeg r) = .next t) :
    (s.setSeg r (t.seg r)).Frame t [.esp] [] ∧ t.flags = s.flags := by
  have ⟨_, h⟩ := check_eq_ok.mp (outcome_eq_next.mp h)
  have ⟨_, h⟩ := check_eq_ok.mp h
  obtain ⟨u, hu, h⟩ := bind_eq_ok.mp h
  cases h
  obtain ⟨x, rfl⟩ := State.loadSeg_eq_ok hu
  have loaded := (State.Touches.refl (s.setSeg r x)).setReg (w := s.stackWidth) (r := .esp)
    (v := s.stackUp s.opWidth.bytes)
  rw [s.stackWidth_regs] at loaded
  exact ⟨loaded.retireWith.besideSeg, by simp⟩

theorem execMovSregRm16_frame {rm : RM} {r : SegReg} (h : exec (.movSregRm16 rm r) s = .next t) :
    (s.setSeg r (t.seg r)).Frame t [] [] ∧ t.flags = s.flags := by
  have ⟨_, h⟩ := check_eq_ok.mp (outcome_eq_next.mp h)
  have ⟨_, h⟩ := (guard_eq_ok (by simp [bind_eq_ok])).mp h
  obtain ⟨sel, _, h⟩ := bind_eq_ok.mp h
  obtain ⟨u, hu, h⟩ := bind_eq_ok.mp h
  cases h
  obtain ⟨x, rfl⟩ := State.loadSeg_eq_ok hu
  exact ⟨(State.Touches.refl (s.setSeg r x)).retireWith.besideSeg, rfl⟩

/-! ### Control transfer (rules R402 to R407, R519 to R521, R532) -/

theorem State.retNear_flags {imm : Nat} (h : outcome (s.retNear imm) = .next t) : t.flags = s.flags := by
  have ⟨_, h⟩ := check_eq_ok.mp (outcome_eq_next.mp h)
  have ⟨_, h⟩ := check_eq_ok.mp h
  obtain ⟨-, rfl⟩ := State.jump_eq_ok.mp h
  simp

theorem State.branch_flags {take : Bool} {rel : Word} (h : outcome (s.branch take rel) = .next t) :
    t.flags = s.flags := by
  obtain ⟨-, -, ⟨-, -, rfl⟩ | ⟨-, rfl⟩⟩ := State.branch_eq_ok.mp (outcome_eq_next.mp h)
  · rfl
  · rfl

theorem State.branch_frame {take : Bool} {rel : Word} (h : outcome (s.branch take rel) = .next t) :
    s.Frame t [] [] ∧ t.flags = s.flags := ⟨(State.branch_touches h).toFrame, State.branch_flags h⟩

theorem State.loopBranch_frame {also : Bool} {rel : BitVec 8} (h : outcome (s.loopBranch also rel) = .next t) :
    s.Frame t [.ecx] [] ∧ t.flags = s.flags :=
  ⟨((State.Touches.refl s).countDown.trans (State.branch_touches h)).toFrame,
    (State.branch_flags h).trans s.countDown_flags⟩

/-- What a far return leaves: beside (E)SP the segment registers and CPL, and with CPL unchanged CS only. -/
def State.FarReturned (s t : State) : Prop :=
  ({ s with segs := t.segs, cpl := t.cpl } : State).Frame t [.esp] [] ∧ t.flags = s.flags ∧
    (t.cpl = s.cpl → ∀ x, x ≠ .cs → t.seg x = s.seg x)

/-- A return that loads CS and raises the pointer. -/
theorem State.farReturned_cs (s : State) (x : Segment) (k : Nat) (target : Word) :
    s.FarReturned (((s.setSeg .cs x).popped k).jumpTo target) := by
  have touches := ((State.Touches.refl (s.setSeg .cs x)).popped (k := k)).jumpTo (x := target)
  refine ⟨touches.besideSegs, by simp, fun _ r hr => ?_⟩
  rw [State.seg, touches.segs]
  exact s.seg_setSeg_other .cs r x hr

theorem State.dropSeg_segs {r : SegReg} (h : s.dropSeg r = .ok t) : ∃ g, t = { s with segs := g } := by
  obtain rfl | rfl := State.dropSeg_eq_ok h
  · exact ⟨_, rfl⟩
  · exact ⟨_, rfl⟩

/-- The validation of the data segment registers changes segment registers only (rule R407). -/
theorem State.dropSegs_segs (h : s.dropSegs = .ok t) : ∃ g, t = { s with segs := g } := by
  obtain ⟨a, b, c, es, fs, gs, ds⟩ := State.dropSegs_eq_ok h
  obtain ⟨_, rfl⟩ := State.dropSeg_segs es
  obtain ⟨_, rfl⟩ := State.dropSeg_segs fs
  obtain ⟨_, rfl⟩ := State.dropSeg_segs gs
  obtain ⟨_, rfl⟩ := State.dropSeg_segs ds
  exact ⟨_, rfl⟩

/-- A return that also loads SS, (E)SP and CPL, and validates the data segment registers. -/
theorem State.farReturned_outer {g : Segments} {level : BitVec 2} (outer : level ≠ s.cpl) {v : Word}
    (h : (({ s with segs := g, cpl := level } : State).setReg s.opWidth .esp v).dropSegs = .ok t) (target : Word) :
    s.FarReturned (t.jumpTo target) := by
  obtain ⟨g', rfl⟩ := State.dropSegs_segs h
  have loaded := (State.Touches.refl ({ s with segs := g, cpl := level } : State)).setReg (w := s.opWidth) (r := .esp)
    (v := v)
  rw [State.opWidth, Place.regs_ofSize] at loaded
  have touches := (loaded.withSegs g').jumpTo (x := target)
  exact ⟨touches.besideSegs (s := s), by simp, fun same => absurd (touches.system.cpl.symm.trans same) outer⟩

theorem State.retFarReal_frame {imm : Nat} (h : s.retFarReal imm = .ok t) : s.FarReturned t := by
  have ⟨_, h⟩ := check_eq_ok.mp h
  have ⟨_, h⟩ := (guard_eq_ok (by simp)).mp h
  cases h
  exact s.farReturned_cs ..

theorem State.retFarSame_frame {imm : Nat} (h : s.retFarSame imm = .ok t) : s.FarReturned t := by
  obtain ⟨d, _, h⟩ := bind_eq_ok.mp h
  have ⟨_, h⟩ := check_eq_ok.mp h
  have ⟨_, h⟩ := (guard_eq_ok (by simp [bind_eq_ok])).mp h
  cases h
  exact s.farReturned_cs ..

/-- A return to an outer level changes CPL. -/
theorem State.retFarOuter_frame {imm : Nat} (outer : rplOf s.returnSel ≠ s.cpl) (h : s.retFarOuter imm = .ok t) :
    s.FarReturned t := by
  have ⟨_, h⟩ := (guard_eq_ok (by simp [bind_eq_ok])).mp h
  obtain ⟨d, _, h⟩ := bind_eq_ok.mp h
  have ⟨_, h⟩ := check_eq_ok.mp h
  have ⟨_, h⟩ := check_eq_ok.mp h
  obtain ⟨e, he, h⟩ := bind_eq_ok.mp h
  have ⟨_, h⟩ := check_eq_ok.mp h
  have ⟨_, h⟩ := (guard_eq_ok (by simp [bind_eq_ok])).mp h
  obtain ⟨u, hu, h⟩ := bind_eq_ok.mp h
  cases h
  exact State.farReturned_outer outer hu _

theorem State.retFar_frame {imm : Nat} (h : outcome (s.retFar imm) = .next t) : s.FarReturned t := by
  have ⟨_, h⟩ := check_eq_ok.mp (outcome_eq_next.mp h)
  split at h
  case h_1 =>
    have ⟨_, h⟩ := check_eq_ok.mp h
    have ⟨_, h⟩ := (guard_eq_ok (by simp)).mp h
    split at h
    case isTrue => exact State.retFarSame_frame h
    case isFalse outer => exact State.retFarOuter_frame outer h
  case h_2 => exact State.retFarReal_frame h

/-! ### Special registers and flags (rules R211, R213, R441, R442, R499, R500) -/

theorem execMovCrR32_frame {c : CReg} {r : Reg} (h : exec (.movCrR32 c r) s = .next t) :
    (s.setCreg c (t.creg c)).Frame t [] [] := by
  have ⟨_, h⟩ := check_eq_ok.mp (outcome_eq_next.mp h)
  have ⟨_, h⟩ := check_eq_ok.mp h
  obtain ⟨-, rfl⟩ := check_ok_eq_ok.mp h
  exact (State.Touches.refl (s.setCreg ..)).undefineFlags.retire.besideCreg

theorem execMovDrR32_frame {d : DReg} {r : Reg} (h : exec (.movDrR32 d r) s = .next t) :
    (s.setDreg d (t.dreg d)).Frame t [] [] := by
  have ⟨_, h⟩ := check_eq_ok.mp (outcome_eq_next.mp h)
  have ⟨_, h⟩ := check_eq_ok.mp h
  obtain ⟨-, rfl⟩ := check_ok_eq_ok.mp h
  exact (State.Touches.refl (s.setDreg ..)).undefineFlags.retire.besideDreg

theorem execSti_frame (h : exec .sti s = .next t) :
    ({ s with flags := { s.flags with ifl := t.flags.ifl } } : State).Frame t [] [] := by
  have ⟨_, h⟩ := check_eq_ok.mp (outcome_eq_next.mp h)
  obtain ⟨-, rfl⟩ := check_ok_eq_ok.mp h
  exact (State.Touches.refl (s.setFlags _)).retireWith.toFrame

theorem execCli_frame (h : exec .cli s = .next t) :
    ({ s with flags := { s.flags with ifl := t.flags.ifl } } : State).Frame t [] [] := by
  have ⟨_, h⟩ := check_eq_ok.mp (outcome_eq_next.mp h)
  obtain ⟨-, rfl⟩ := check_ok_eq_ok.mp h
  exact (State.Touches.refl (s.setFlags _)).retire.toFrame

/-- CLD and STD. -/
theorem State.onlyDf_frame {b : Bool} (h : outcome (s.onlyFlags { s.flags with df := b }) = .next t) :
    ({ s with flags := { s.flags with df := t.flags.df } } : State).Frame t [] [] := by
  obtain ⟨-, rfl⟩ := check_ok_eq_ok.mp (outcome_eq_next.mp h)
  exact (State.Touches.refl (s.setFlags _)).retire.toFrame

end

open State in
/-- Settles O51: each form by the frame of the meaning it shares. -/
theorem frameOfStackAndControlForms : Obligations.FrameOfStackAndControlForms := by
  intro s t rm m r sr c d rel i8 imm iv k
  simp only [List.forall_mem_cons, List.not_mem_nil, false_imp_iff, implies_true, and_true]
  refine ⟨?pushes, fun h => (execPusha_touches h).toFrame, ?pops, fun h => (execPopRm_touches h).toFrame,
    fun h => (execPopa_touches h).toFrame, execPopf_frame,
    ⟨popSeg_frame, popSeg_frame, popSeg_frame, popSeg_frame, popSeg_frame⟩, execMovSregRm16_frame,
    ?nearReturns, ⟨retFar_frame, retFar_frame⟩, ?jumps,
    ⟨loopBranch_frame, loopBranch_frame, loopBranch_frame⟩, execMovCrR32_frame, execMovDrR32_frame,
    ⟨execSti_frame, execCli_frame⟩, onlyDf_frame, onlyDf_frame⟩
  case pushes =>
    have value {v} (h : outcome (s.pushValue v) = .next t) := (pushValue_touches h).toFrame
    have segment {x} (h : outcome (s.pushSeg x) = .next t) := (pushSeg_touches h).toFrame
    exact ⟨value, fun h => (execPushRm_touches h).toFrame, value, value, segment, segment, segment, segment, segment,
      segment, fun h => (execPushf_touches h).toFrame⟩
  case pops =>
    have popReg (h : exec (.popReg r) s = .next t) : s.Frame t [r, .esp] [] :=
      ((execPopReg_touches h).mono (by simp) (by simp)).toFrame
    exact ⟨popReg, popReg⟩
  case nearReturns =>
    have near {n} (h : outcome (s.retNear n) = .next t) := And.intro (retNear_touches h).toFrame (retNear_flags h)
    exact ⟨near, near⟩
  case jumps =>
    exact ⟨branch_frame, branch_frame, branch_frame, branch_frame, branch_frame, branch_frame, branch_frame,
      branch_frame, branch_frame, branch_frame, branch_frame, branch_frame, branch_frame, branch_frame, branch_frame,
      branch_frame, branch_frame, branch_frame, branch_frame⟩

end Sys2Proof.Machine
end

section
/-! The values and flags of the rotates and shifts (rules R361 to R372), with the statements about them settled. -/

namespace Sys2Proof.Machine

/-! ### Rotation of a number of `k + d` bits -/

section
variable {k d : Nat}

theorem high_low_lt {hi lo : Nat} (hi_lt : hi < 2 ^ k) (lo_lt : lo < 2 ^ d) : hi * 2 ^ d + lo < 2 ^ (k + d) :=
  calc hi * 2 ^ d + lo < (hi + 1) * 2 ^ d := by rw [Nat.add_one_mul]; omega
    _ ≤ 2 ^ k * 2 ^ d := Nat.mul_le_mul_right _ hi_lt
    _ = 2 ^ (k + d) := (pow_add 2 k d).symm

theorem high_low_div {lo : Nat} (hi : Nat) (lo_lt : lo < 2 ^ d) : (hi * 2 ^ d + lo) / 2 ^ d = hi := by
  rw [mul_comm, Nat.mul_add_div (Nat.two_pow_pos d), Nat.div_eq_of_lt lo_lt, add_zero]

/-- A number of `k + d` bits is its high `k` bits followed by its low `d` bits. -/
theorem exists_high_low {x : Nat} (h : x < 2 ^ (k + d)) : ∃ hi lo, hi < 2 ^ k ∧ lo < 2 ^ d ∧ x = hi * 2 ^ d + lo :=
  ⟨x / 2 ^ d, x % 2 ^ d, Nat.div_lt_of_lt_mul (by rwa [← pow_add, add_comm]), Nat.mod_lt _ (Nat.two_pow_pos d),
    (Nat.div_add_mod' x _).symm⟩

/-- The high `k` bits and the low `d` bits change places: a rotation left by `k`, and so right by `d`. -/
def rotated (k d x : Nat) : Nat := x % 2 ^ d * 2 ^ k + x / 2 ^ d

theorem rotated_high_low {lo : Nat} (hi : Nat) (lo_lt : lo < 2 ^ d) :
    rotated k d (hi * 2 ^ d + lo) = lo * 2 ^ k + hi := by
  rw [rotated, high_low_div hi lo_lt, Nat.mul_add_mod_of_lt lo_lt]

theorem rotated_lt {x : Nat} (h : x < 2 ^ (k + d)) : rotated k d x < 2 ^ (k + d) := by
  obtain ⟨hi, lo, hi_lt, lo_lt, rfl⟩ := exists_high_low h
  rw [rotated_high_low hi lo_lt, add_comm k]
  exact high_low_lt lo_lt hi_lt

/-- The closed form of the rules: the bits that are shifted out at one end enter at the other. -/
theorem rotated_eq {x : Nat} (h : x < 2 ^ (k + d)) : rotated k d x = (x * 2 ^ k + x / 2 ^ d) % 2 ^ (k + d) := by
  have product : x * 2 ^ k = x % 2 ^ d * 2 ^ k + 2 ^ (k + d) * (x / 2 ^ d) := by
    conv_lhs => rw [← Nat.div_add_mod x (2 ^ d)]
    ring
  rw [product, add_right_comm, Nat.add_mul_mod_self_left, ← rotated, Nat.mod_eq_of_lt (rotated_lt h)]

theorem rotated_rotated {x : Nat} (h : x < 2 ^ (k + d)) : rotated d k (rotated k d x) = x := by
  obtain ⟨hi, lo, hi_lt, lo_lt, rfl⟩ := exists_high_low h
  rw [rotated_high_low hi lo_lt, rotated_high_low lo hi_lt]

/-- One more bit to the left. -/
theorem rotated_one_left {x : Nat} (h : x < 2 ^ (k + (d + 1))) :
    rotated 1 (k + d) (rotated k (d + 1) x) = rotated (k + 1) d x := by
  obtain ⟨hi, rest, hi_lt, rest_lt, rfl⟩ := exists_high_low h
  obtain ⟨bit, lo, -, lo_lt, rfl⟩ := exists_high_low (k := 1) (d := d) (add_comm d 1 ▸ rest_lt)
  have low : lo * 2 ^ k + hi < 2 ^ (k + d) := add_comm d k ▸ high_low_lt lo_lt hi_lt
  calc rotated 1 (k + d) (rotated k (d + 1) (hi * 2 ^ (d + 1) + (bit * 2 ^ d + lo)))
      = rotated 1 (k + d) (bit * 2 ^ (k + d) + (lo * 2 ^ k + hi)) := by rw [rotated_high_low hi rest_lt]; ring_nf
    _ = (lo * 2 ^ k + hi) * 2 ^ 1 + bit := rotated_high_low bit low
    _ = lo * 2 ^ (k + 1) + (hi * 2 + bit) := by ring
    _ = rotated (k + 1) d ((hi * 2 + bit) * 2 ^ d + lo) := (rotated_high_low _ lo_lt).symm
    _ = rotated (k + 1) d (hi * 2 ^ (d + 1) + (bit * 2 ^ d + lo)) := by ring_nf

/-- One more bit to the right: the left turn of `rotated_one_left` undone. -/
theorem rotated_one_right {x : Nat} (h : x < 2 ^ (k + (d + 1))) :
    rotated (k + d) 1 (rotated (d + 1) k x) = rotated d (k + 1) x := by
  have h' : x < 2 ^ (d + (k + 1)) := by convert h using 2; omega
  have lt : rotated d (k + 1) x < 2 ^ (1 + (k + d)) := by convert rotated_lt h' using 2; omega
  rw [← rotated_one_left h', add_comm d k, rotated_rotated lt]

theorem rotated_zero_left {x : Nat} (h : x < 2 ^ d) : rotated 0 d x = x := by
  rw [rotated, Nat.mod_eq_of_lt h, Nat.div_eq_of_lt h, pow_zero, mul_one, add_zero]

theorem rotated_zero_right (k x : Nat) : rotated k 0 x = x := by
  rw [rotated, pow_zero, Nat.mod_one, Nat.div_one, zero_mul, zero_add]

end

/-- A function that walks along a cycle of `m` values, named by the turns made and the turns left, stands at the value
of `n % m` turns after `n` turns. -/
theorem iterate_of_cycle {α : Type} {f : α → α} {c : Nat → Nat → α} {m : Nat} (pos : 0 < m)
    (turn : ∀ k d, k + (d + 1) = m → f (c k (d + 1)) = c (k + 1) d) (closed : c m 0 = c 0 m) (n : Nat) :
    f^[n] (c 0 m) = c (n % m) (m - n % m) := by
  induction n with
  | zero => rw [Nat.zero_mod, Nat.sub_zero, Function.iterate_zero_apply]
  | succ n ih =>
    obtain ⟨d, made, left⟩ : ∃ d, n % m + (d + 1) = m ∧ m - n % m = d + 1 :=
      ⟨m - n % m - 1, by have := Nat.mod_lt n pos; omega⟩
    rw [Function.iterate_succ_apply', ih, left, turn _ _ made, ← Nat.mod_add_mod n m 1]
    cases d with
    | zero => rw [made, Nat.mod_self, Nat.sub_zero, closed]
    | succ d =>
      have lt : n % m + 1 < m := by omega
      rw [Nat.mod_eq_of_lt lt, show m - (n % m + 1) = d + 1 by omega]

section
variable {m x : Nat} (h : x < 2 ^ m) (pos : 0 < m) (n : Nat)
include h pos

/-- `n` turns to the left, each by one bit, in `m` bits. -/
theorem iterate_rotated_left :
    (rotated 1 (m - 1))^[n] x = (x * 2 ^ (n % m) + x / 2 ^ (m - n % m)) % 2 ^ m := by
  have turn (k d) (e : k + (d + 1) = m) : rotated 1 (m - 1) (rotated k (d + 1) x) = rotated (k + 1) d x := by
    subst e
    exact rotated_one_left h
  have walk := iterate_of_cycle (c := fun k d => rotated k d x) pos turn
    ((rotated_zero_right m x).trans (rotated_zero_left h).symm) n
  have width : n % m + (m - n % m) = m := Nat.add_sub_of_le (Nat.mod_lt n pos).le
  rwa [rotated_zero_left h, rotated_eq (by rwa [width]), width] at walk

/-- `n` turns to the right, each by one bit, in `m` bits. -/
theorem iterate_rotated_right :
    (rotated (m - 1) 1)^[n] x = (x / 2 ^ (n % m) + x * 2 ^ (m - n % m)) % 2 ^ m := by
  have turn (k d) (e : k + (d + 1) = m) : rotated (m - 1) 1 (rotated (d + 1) k x) = rotated d (k + 1) x := by
    subst e
    exact rotated_one_right h
  have walk := iterate_of_cycle (c := fun k d => rotated d k x) pos turn
    ((rotated_zero_left h).trans (rotated_zero_right m x).symm) n
  have width : m - n % m + n % m = m := Nat.sub_add_cancel (Nat.mod_lt n pos).le
  rwa [rotated_zero_right, rotated_eq (by rwa [width]), width, add_comm (_ * _)] at walk

end

/-! ### One turn of the loops, as arithmetic (rules R361 to R367) -/

theorem Width.bits_pos (w : Width) : 0 < w.bits := by cases w <;> decide

theorem Width.msb_toNat (w : Width) {a : Word} (h : a.toNat < 2 ^ w.bits) :
    (w.msb a).toNat = a.toNat / 2 ^ (w.bits - 1) := by
  rw [w.two_pow_bits] at h
  rw [Width.msb, BitVec.getLsbD, Nat.toNat_testBit, Nat.mod_eq_of_lt (Nat.div_lt_of_lt_mul (by rwa [mul_comm]))]

theorem getLsbD_zero (a : Word) : a.getLsbD 0 = decide (a.toNat % 2 = 1) := Nat.testBit_zero ..

theorem getLsbD_zero_toNat (a : Word) : (a.getLsbD 0).toNat = a.toNat % 2 := by
  rw [BitVec.getLsbD, Nat.toNat_testBit, pow_zero, Nat.div_one]

/-- Where the low bits of one number are free for the other, or is addition. -/
theorem or_toNat_of_dvd {x y : Word} {n : Nat} (free : 2 ^ n ∣ x.toNat) (lt : y.toNat < 2 ^ n) :
    (x ||| y).toNat = x.toNat + y.toNat := by
  obtain ⟨q, hq⟩ := free
  rw [BitVec.toNat_or, hq, Nat.two_pow_add_eq_or_of_lt lt]

theorem Width.topBit_toNat (w : Width) (b : Bool) : (w.topBit b).toNat = b.toNat * 2 ^ (w.bits - 1) := by
  cases w <;> cases b <;> rfl

theorem bit0_toNat (b : Bool) : (bit0 b).toNat = b.toNat := by cases b <;> rfl

/-- A value shifted left and cut to the width. -/
theorem Width.trunc_shiftLeft_toNat (w : Width) (a : Word) (n : Nat) :
    (w.trunc (a <<< n)).toNat = a.toNat * 2 ^ n % 2 ^ w.bits := by
  have wide : w.bits ≤ 32 := by cases w <;> decide
  rw [w.trunc_toNat, BitVec.toNat_shiftLeft, Nat.shiftLeft_eq, Nat.mod_mod_of_dvd _ (Nat.pow_dvd_pow 2 wide)]

theorem ushiftRight_toNat (a : Word) (n : Nat) : (a >>> n).toNat = a.toNat / 2 ^ n := by
  rw [BitVec.toNat_ushiftRight, Nat.shiftRight_eq_div_pow]

/-- A bit entering at the low end. -/
theorem Width.enterLow_toNat (w : Width) (a : Word) (b : Bool) :
    (w.trunc ((a <<< 1) ||| bit0 b)).toNat = (a.toNat * 2 + b.toNat) % 2 ^ w.bits := by
  have shifted : (a <<< 1).toNat = a.toNat * 2 % 2 ^ 32 := by rw [BitVec.toNat_shiftLeft, Nat.shiftLeft_eq, pow_one]
  have low : (bit0 b).toNat < 2 ^ 1 := bit0_toNat b ▸ b.toNat_lt
  rw [w.trunc_toNat, or_toNat_of_dvd (n := 1) (by omega) low, shifted, bit0_toNat]
  cases w <;> simp only [Width.bits] <;> omega

/-- A bit entering at the high end. -/
theorem Width.enterHigh_toNat (w : Width) {a : Word} (h : a.toNat < 2 ^ w.bits) (b : Bool) :
    ((a >>> 1) ||| w.topBit b).toNat = b.toNat * 2 ^ (w.bits - 1) + a.toNat / 2 := by
  have lt : (a >>> 1).toNat < 2 ^ (w.bits - 1) := by have := w.two_pow_bits; rw [ushiftRight_toNat]; omega
  rw [BitVec.or_comm, or_toNat_of_dvd ⟨_, (w.topBit_toNat b).trans (mul_comm ..)⟩ lt, w.topBit_toNat,
    ushiftRight_toNat, pow_one]

theorem Width.enterHigh_lt (w : Width) {a : Word} (h : a.toNat < 2 ^ w.bits) (b : Bool) :
    ((a >>> 1) ||| w.topBit b).toNat < 2 ^ w.bits := by
  have := w.two_pow_bits
  rw [w.enterHigh_toNat h]
  cases b <;> simp only [Bool.toNat_false, Bool.toNat_true] <;> omega

/-- The bit that enters is then the lowest, or the highest, of the result. -/
theorem Width.getLsbD_zero_enterLow (w : Width) (a : Word) (b : Bool) :
    (w.trunc ((a <<< 1) ||| bit0 b)).getLsbD 0 = b := by
  rw [getLsbD_zero, w.enterLow_toNat, w.two_pow_bits, Nat.mod_mul_right_mod, Nat.mul_add_mod']
  cases b <;> rfl

theorem Width.msb_enterHigh (w : Width) {a : Word} (h : a.toNat < 2 ^ w.bits) (b : Bool) :
    w.msb ((a >>> 1) ||| w.topBit b) = b := by
  have lt : a.toNat / 2 < 2 ^ (w.bits - 1) := by have := w.two_pow_bits; omega
  rw [Bool.eq_iff_iff, ← Bool.toNat_eq_one, ← Bool.toNat_eq_one, w.msb_toNat (w.enterHigh_lt h b), w.enterHigh_toNat h,
    high_low_div _ lt]

theorem Shift.once_lt (k : Shift) (w : Width) {a : Word} (h : a.toNat < 2 ^ w.bits) (cf : Bool) :
    (k.once w a cf).1.toNat < 2 ^ w.bits := by
  cases k with
  | rol | rcl | shl => exact w.trunc_lt _
  | ror | rcr | sar => exact w.enterHigh_lt h _
  | shr => exact (ushiftRight_toNat a 1).trans_lt ((Nat.div_le_self ..).trans_lt h)

/-- CF in front of the operand: the `N + 1` bits that RCL and RCR rotate. -/
def Width.withCarry (w : Width) (p : Word × Bool) : Nat := p.2.toNat * 2 ^ w.bits + p.1.toNat

theorem Width.withCarry_lt (w : Width) {a : Word} (h : a.toNat < 2 ^ w.bits) (cf : Bool) :
    w.withCarry (a, cf) < 2 ^ (w.bits + 1) := add_comm 1 w.bits ▸ high_low_lt cf.toNat_lt h

/-- The operand and CF, read back. -/
theorem Width.of_withCarry (w : Width) {p : Word × Bool} (h : p.1.toNat < 2 ^ w.bits) {x : Nat}
    (e : w.withCarry p = x) : p.1.toNat = x % 2 ^ w.bits ∧ p.2 = decide (x / 2 ^ w.bits = 1) := by
  rw [← e, Width.withCarry, high_low_div _ h, Nat.mul_add_mod_of_lt h]
  simp

/-- The signed value weighs the high bit negatively. -/
theorem Width.signed_eq (w : Width) {a : Word} (h : a.toNat < 2 ^ w.bits) :
    w.signed a = a.toNat - ((w.msb a).toNat * 2 ^ w.bits : Nat) := by
  have msb := w.msb_toNat h
  have low := Nat.div_add_mod' a.toNat (2 ^ (w.bits - 1))
  have low_lt := Nat.mod_lt a.toNat (Nat.two_pow_pos (w.bits - 1))
  rw [w.signed_eq_bmod, Int.bmod_eq_iff (Nat.two_pow_pos _), w.two_pow_bits, ← and_assoc]
  refine ⟨?balanced, -(w.msb a).toNat, by push_cast; ring⟩
  rw [← msb] at low
  generalize 2 ^ (w.bits - 1) = half at *
  cases high : w.msb a with
  | false | true =>
    simp only [high, Bool.toNat_false, Bool.toNat_true] at low ⊢
    omega

theorem Width.getLsbD_zero_eq_signed (w : Width) {a : Word} (h : a.toNat < 2 ^ w.bits) :
    a.getLsbD 0 = decide (w.signed a % 2 = 1) := by
  rw [getLsbD_zero, decide_eq_decide, w.signed_eq h, w.two_pow_bits, mul_left_comm]
  omega

theorem Shift.shl_once_toNat (w : Width) (a : Word) (cf : Bool) :
    (Shift.shl.once w a cf).1.toNat = a.toNat * 2 % 2 ^ w.bits := w.trunc_shiftLeft_toNat a 1

theorem Shift.shr_once_toNat (w : Width) (a : Word) (cf : Bool) : (Shift.shr.once w a cf).1.toNat = a.toNat / 2 :=
  ushiftRight_toNat a 1

section
variable (w : Width) {a : Word} (h : a.toNat < 2 ^ w.bits) (cf : Bool)
include h

theorem Shift.rol_once_toNat : (Shift.rol.once w a cf).1.toNat = rotated 1 (w.bits - 1) a.toNat := by
  have width : 1 + (w.bits - 1) = w.bits := by cases w <;> rfl
  rw [rotated_eq (by rwa [width]), width, pow_one, ← w.msb_toNat h]
  exact w.enterLow_toNat a _

theorem Shift.ror_once_toNat : (Shift.ror.once w a cf).1.toNat = rotated (w.bits - 1) 1 a.toNat := by
  rw [rotated, pow_one, ← getLsbD_zero_toNat]
  exact w.enterHigh_toNat h _

theorem Shift.rcl_once_withCarry :
    w.withCarry (Shift.rcl.once w a cf) = rotated 1 w.bits (w.withCarry (a, cf)) := by
  have enter : (Shift.rcl.once w a cf).1.toNat = (a.toNat * 2 + cf.toNat) % 2 ^ w.bits := w.enterLow_toNat a cf
  have leave : (Shift.rcl.once w a cf).2.toNat = (a.toNat * 2 + cf.toNat) / 2 ^ w.bits := by
    have := w.two_pow_bits
    have := cf.toNat_le
    rw [Shift.once, w.msb_toNat h, w.two_pow_bits, ← Nat.div_div_eq_div_mul]
    congr 1; omega
  rw [Width.withCarry, enter, leave, Nat.div_add_mod', Width.withCarry, rotated_high_low _ h, pow_one]

theorem Shift.rcr_once_withCarry :
    w.withCarry (Shift.rcr.once w a cf) = rotated w.bits 1 (w.withCarry (a, cf)) := by
  have enter : (Shift.rcr.once w a cf).1.toNat = cf.toNat * 2 ^ (w.bits - 1) + a.toNat / 2 := w.enterHigh_toNat h cf
  have leave : (Shift.rcr.once w a cf).2.toNat = a.toNat % 2 := getLsbD_zero_toNat a
  have halved : w.withCarry (a, cf) = 2 * (cf.toNat * 2 ^ (w.bits - 1)) + a.toNat := by
    rw [Width.withCarry, w.two_pow_bits]; ring
  rw [Width.withCarry, enter, leave, rotated, halved, pow_one, Nat.mul_add_mod, Nat.mul_add_div two_pos]

theorem Shift.sar_once_signed : w.signed (Shift.sar.once w a cf).1 = w.signed a / 2 := by
  have even := w.two_pow_bits
  have lt := Shift.sar.once_lt w h cf
  have value : (Shift.sar.once w a cf).1.toNat = (w.msb a).toNat * 2 ^ (w.bits - 1) + a.toNat / 2 :=
    w.enterHigh_toNat h _
  have sign : w.msb (Shift.sar.once w a cf).1 = w.msb a := w.msb_enterHigh h _
  rw [w.signed_eq lt, sign, value, w.signed_eq h, even]
  generalize 2 ^ (w.bits - 1) = half
  cases w.msb a with
  | false | true =>
    simp only [Bool.toNat_false, Bool.toNat_true]
    omega

end

/-! ### The loops as iterations -/

/-- The last turn of the loop. -/
theorem Shift.loop_succ (k : Shift) (w : Width) (n : Nat) (a : Word) (cf : Bool) :
    k.loop w (n + 1) a cf = k.once w (k.loop w n a cf).1 (k.loop w n a cf).2 := by
  induction n generalizing a cf with
  | zero => rfl
  | succ n ih => exact ih ..

theorem Shift.shr_loop_toNat (w : Width) (a : Word) (cf : Bool) (n : Nat) :
    (Shift.shr.loop w n a cf).1.toNat = a.toNat / 2 ^ n := by
  induction n with
  | zero => exact (Nat.div_one _).symm
  | succ n ih => rw [Shift.loop_succ, Shift.shr_once_toNat, ih, Nat.div_div_eq_div_mul, pow_succ]

section
variable (k : Shift) (w : Width) {a : Word} (h : a.toNat < 2 ^ w.bits) (cf : Bool) (n : Nat)
include h

theorem Shift.loop_lt : (k.loop w n a cf).1.toNat < 2 ^ w.bits := by
  induction n with
  | zero => exact h
  | succ n ih => rw [k.loop_succ]; exact k.once_lt w ih _

/-- What each turn does to a reading of operand and CF, the loop does `n` times. -/
theorem Shift.loop_eq_iterate {α : Type} (reading : Word × Bool → α) {f : α → α}
    (once : ∀ {a : Word}, a.toNat < 2 ^ w.bits → ∀ cf, reading (k.once w a cf) = f (reading (a, cf))) :
    reading (k.loop w n a cf) = f^[n] (reading (a, cf)) := by
  induction n with
  | zero => rfl
  | succ n ih => rw [k.loop_succ, once (k.loop_lt w h cf n), ih, Function.iterate_succ_apply']

theorem Shift.rol_loop_toNat : (Shift.rol.loop w n a cf).1.toNat =
    (a.toNat * 2 ^ (n % w.bits) + a.toNat / 2 ^ (w.bits - n % w.bits)) % 2 ^ w.bits :=
  (Shift.rol.loop_eq_iterate w h cf n (·.1.toNat) (Shift.rol_once_toNat w)).trans (iterate_rotated_left h w.bits_pos n)

theorem Shift.ror_loop_toNat : (Shift.ror.loop w n a cf).1.toNat =
    (a.toNat / 2 ^ (n % w.bits) + a.toNat * 2 ^ (w.bits - n % w.bits)) % 2 ^ w.bits :=
  (Shift.ror.loop_eq_iterate w h cf n (·.1.toNat) (Shift.ror_once_toNat w)).trans (iterate_rotated_right h w.bits_pos n)

theorem Shift.rcl_loop_withCarry : w.withCarry (Shift.rcl.loop w n a cf) =
    (w.withCarry (a, cf) * 2 ^ (n % (w.bits + 1)) + w.withCarry (a, cf) / 2 ^ (w.bits + 1 - n % (w.bits + 1))) %
      2 ^ (w.bits + 1) :=
  (Shift.rcl.loop_eq_iterate w h cf n w.withCarry (Shift.rcl_once_withCarry w)).trans
    (iterate_rotated_left (w.withCarry_lt h cf) (Nat.succ_pos _) n)

theorem Shift.rcr_loop_withCarry : w.withCarry (Shift.rcr.loop w n a cf) =
    (w.withCarry (a, cf) / 2 ^ (n % (w.bits + 1)) + w.withCarry (a, cf) * 2 ^ (w.bits + 1 - n % (w.bits + 1))) %
      2 ^ (w.bits + 1) :=
  (Shift.rcr.loop_eq_iterate w h cf n w.withCarry (Shift.rcr_once_withCarry w)).trans
    (iterate_rotated_right (w.withCarry_lt h cf) (Nat.succ_pos _) n)

theorem Shift.shl_loop_toNat : (Shift.shl.loop w n a cf).1.toNat = a.toNat * 2 ^ n % 2 ^ w.bits := by
  induction n with
  | zero => rw [pow_zero, mul_one, Nat.mod_eq_of_lt h]; rfl
  | succ n ih => rw [Shift.loop_succ, Shift.shl_once_toNat, ih, Nat.mod_mul_mod, mul_assoc, pow_succ]

theorem Shift.sar_loop_signed : w.signed (Shift.sar.loop w n a cf).1 = w.signed a / 2 ^ n := by
  induction n with
  | zero => exact (Int.ediv_one _).symm
  | succ n ih =>
    rw [Shift.loop_succ, Shift.sar_once_signed w (Shift.sar.loop_lt w h cf n), ih, pow_succ,
      Int.ediv_ediv_of_nonneg (by positivity)]

end

/-! ### CF after the last turn -/

/-- ROL and ROR copy into CF the bit that enters at the other end. -/
theorem Shift.rol_once_carry (w : Width) (a : Word) (cf : Bool) :
    (Shift.rol.once w a cf).1.getLsbD 0 = (Shift.rol.once w a cf).2 := w.getLsbD_zero_enterLow a _

theorem Shift.ror_once_carry (w : Width) {a : Word} (h : a.toNat < 2 ^ w.bits) (cf : Bool) :
    w.msb (Shift.ror.once w a cf).1 = (Shift.ror.once w a cf).2 := w.msb_enterHigh h _

theorem Shift.shr_loop_carry (w : Width) (a : Word) (cf : Bool) (n : Nat) :
    (Shift.shr.loop w (n + 1) a cf).2 = a.getLsbD n :=
  calc (Shift.shr.loop w (n + 1) a cf).2
      = (Shift.shr.loop w n a cf).1.toNat.testBit 0 := by rw [Shift.loop_succ]; rfl
    _ = a.getLsbD n := by rw [Shift.shr_loop_toNat w a, Nat.testBit_div_two_pow, zero_add]; rfl

section
variable (w : Width) {a : Word} (h : a.toNat < 2 ^ w.bits) (cf : Bool) (n : Nat)
include h

theorem Shift.shl_loop_carry :
    (Shift.shl.loop w (n + 1) a cf).2 = (decide (n + 1 ≤ w.bits) && a.getLsbD (w.bits - (n + 1))) := by
  have pos := w.bits_pos
  calc (Shift.shl.loop w (n + 1) a cf).2
      = (Shift.shl.loop w n a cf).1.toNat.testBit (w.bits - 1) := by rw [Shift.loop_succ]; rfl
    _ = (decide (n ≤ w.bits - 1) && a.toNat.testBit (w.bits - 1 - n)) := by
        rw [Shift.shl_loop_toNat w h, Nat.testBit_mod_two_pow, Nat.testBit_mul_two_pow,
          decide_eq_true (Nat.sub_one_lt pos.ne'), Bool.true_and]
    _ = (decide (n + 1 ≤ w.bits) && a.getLsbD (w.bits - (n + 1))) := by
        rw [Nat.sub_sub, add_comm 1 n, decide_eq_decide.mpr (Nat.le_sub_one_iff_lt pos)]; rfl

theorem Shift.sar_loop_carry : (Shift.sar.loop w (n + 1) a cf).2 = decide (w.signed a / 2 ^ n % 2 = 1) := by
  rw [Shift.loop_succ, ← Shift.sar_loop_signed w h cf n]
  exact w.getLsbD_zero_eq_signed (Shift.sar.loop_lt w h cf n)

end

/-- Settles O4: each loop iterates one turn's arithmetic, which walks a cycle for the rotates and multiplies or divides
by 2 for the shifts; CF is what the last turn makes it. -/
theorem shiftAndRotateClosedForms : Obligations.ShiftAndRotateClosedForms := by
  intro w a cf n h x k j left right
  obtain ⟨rclValue, rclCarry⟩ := w.of_withCarry (Shift.rcl.loop_lt w h cf n) (Shift.rcl_loop_withCarry w h cf n)
  obtain ⟨rcrValue, rcrCarry⟩ := w.of_withCarry (Shift.rcr.loop_lt w h cf n) (Shift.rcr_loop_withCarry w h cf n)
  refine ⟨fun _ => rfl, Shift.rol_loop_toNat w h cf n, Shift.ror_loop_toNat w h cf n, rclValue, rclCarry, rcrValue,
    rcrCarry, Shift.shl_loop_toNat w h cf n, Shift.shr_loop_toNat w a cf n, Shift.sar.loop_lt w h cf n,
    Shift.sar_loop_signed w h cf n, fun pos => ?carry⟩
  obtain ⟨n, rfl⟩ := Nat.exists_eq_succ_of_ne_zero pos.ne'
  refine ⟨?rol, ?ror, Shift.shl_loop_carry w h cf n, Shift.shr_loop_carry w a cf n, Shift.sar_loop_carry w h cf n⟩
  case rol => rw [Shift.loop_succ]; exact (Shift.rol_once_carry ..).symm
  case ror => rw [Shift.loop_succ]; exact (Shift.ror_once_carry w (Shift.ror.loop_lt w h cf n) _).symm

/-! ### SHLD and SHRD (rules R368, R369) -/

/-- A value shifted left within the width leaves its low places to the bits of another. -/
theorem Width.trunc_shiftLeft_or_toNat (w : Width) (a : Word) {v : Word} {n : Nat} (le : n ≤ w.bits)
    (lt : v.toNat < 2 ^ n) : (w.trunc (a <<< n) ||| v).toNat = a.toNat * 2 ^ n % 2 ^ w.bits + v.toNat := by
  have free : 2 ^ n ∣ a.toNat * 2 ^ n % 2 ^ w.bits :=
    (Nat.dvd_mod_iff (Nat.pow_dvd_pow 2 le)).mpr (Nat.dvd_mul_left ..)
  rw [or_toNat_of_dvd (w.trunc_shiftLeft_toNat a n ▸ free) lt, w.trunc_shiftLeft_toNat]

/-- Shifted right within the width, a value fits the places that are left. -/
theorem Width.ushiftRight_lt (w : Width) {a : Word} (h : a.toNat < 2 ^ w.bits) {n : Nat} (le : n ≤ w.bits) :
    (a >>> n).toNat < 2 ^ (w.bits - n) := by
  rw [ushiftRight_toNat]
  exact Nat.div_lt_of_lt_mul (by rwa [← pow_add, Nat.add_sub_of_le le])

/-- Settles O5: the shifted operand and the bits that enter do not overlap, so the disjunction is their sum. -/
theorem doubleShiftValues : Obligations.DoubleShiftValues := by
  intro w a b n _ ha hb pos lt
  have le : w.bits - n ≤ w.bits := Nat.sub_le ..
  have entering : (b >>> (w.bits - n)).toNat < 2 ^ n := by
    have := w.ushiftRight_lt hb le
    rwa [Nat.sub_sub_self lt.le] at this
  refine ⟨?shld, rfl, ?shrd, rfl⟩
  case shld => rw [shldValue, w.trunc_shiftLeft_or_toNat a lt.le entering, ushiftRight_toNat]
  case shrd =>
    rw [shrdValue, BitVec.or_comm, w.trunc_shiftLeft_or_toNat b le (w.ushiftRight_lt ha lt.le), ushiftRight_toNat,
      add_comm]

/-! ### Flags of the shifts and rotates (rules R370 to R372) -/

section
variable {f : Flags} {k : Shift} {w : Width} {n : Nat} {a r : Word} {cf : Bool} {x : Word}

/-- A shift by a count other than 0 sets SF, ZF and PF from the result. -/
theorem Flags.shift_of_ne_zero (shift : k.isRotate = false) (h : n ≠ 0) :
    f.shift k w n a r cf x = { f.setSZP w r with
      cf := cf, ofl := if n = 1 then k.overflow w a r cf else x.getLsbD 11, af := x.getLsbD 4 } := by
  simp [Flags.shift, shift, h]

theorem Flags.shift_zero (shift : k.isRotate = false) :
    f.shift k w 0 a r cf x = { f with
      ofl := x.getLsbD 11, sf := x.getLsbD 7, zf := x.getLsbD 6, pf := x.getLsbD 2, af := x.getLsbD 4 } := by
  simp [Flags.shift, shift]

/-- With a count of 1 OF is defined, for shifts and rotates alike. -/
theorem Flags.shift_one_ofl (k : Shift) : (f.shift k w 1 a r cf x).ofl = k.overflow w a r cf := by
  cases h : k.isRotate with
  | true => simp [Flags.shift_of_isRotate h]
  | false => simp [Flags.shift_of_ne_zero h]

end

/-- CF is the loop's, which a count of 0 leaves as it was. -/
theorem Flags.shift_loop_cf (f : Flags) (k : Shift) (w : Width) (n : Nat) (a x : Word) :
    (f.shift k w n a (k.loop w n a f.cf).1 (k.loop w n a f.cf).2 x).cf =
      if n = 0 then f.cf else (k.loop w n a f.cf).2 := by
  obtain rfl | pos := Nat.eq_zero_or_pos n
  · cases h : k.isRotate with
    | true => rw [Flags.shift_of_isRotate h]; rfl
    | false => rw [Flags.shift_zero h]; rfl
  · rw [if_neg pos.ne']
    cases h : k.isRotate with
    | true => rw [Flags.shift_of_isRotate h]
    | false => rw [Flags.shift_of_ne_zero h pos.ne']

/-- Settles O6: CF, OF and the others each by the lemma about the flags of a shift. -/
theorem shiftFlagRules : Obligations.ShiftFlagRules := by
  intro k w n a s
  refine ⟨_, rfl, s.flags.shift_keepsControl k w n a _ _ _, s.flags.shift_loop_cf k w n a _, fun rotate => ?kept,
    fun shift pos => ?result, ?left, ?right, ?shr, ?sar⟩
  case kept => rw [Flags.shift_of_isRotate rotate]; exact ⟨rfl, rfl, rfl, rfl⟩
  case result => rw [Flags.shift_of_ne_zero shift pos]; exact ⟨rfl, beq_iff_eq, rfl⟩
  all_goals rintro rfl hk
  case left =>
    rw [s.flags.shift_loop_cf, Flags.shift_one_ofl]
    fin_cases hk <;> rfl
  case right =>
    rw [Flags.shift_one_ofl]
    fin_cases hk <;> rfl
  case shr | sar =>
    rw [Flags.shift_one_ofl, hk]
    rfl

end Sys2Proof.Machine
end

section
/-! RET far to the same level (rules R403 to R405, R409): the tests of its listing in their order and what it completes
with, with the statement about it settled. -/

namespace Sys2Proof.Machine

/-- In protected mode a stack read out of the limit is #SS(0). -/
theorem State.checkPop_out_of_prot {s : State} {k n : Nat} (m : s.mode = .prot)
    (outside : s.inLimit .ss (s.stackUp k) n = false) : s.checkPop k n = raise .stackFault (some 0) := by
  rw [State.checkPop_out outside, s.segFault_ss, m]
  rfl

/-! ### The selector of the frame -/

section
variable {s : State} (unlocked : s.Unlocked) (m : s.mode = .prot) (imm : Nat)
include unlocked m

/-- In protected mode the return selector is checked and read first, and its RPL says which listing follows. -/
theorem State.retFar_prot :
    s.retFar imm = (do
      s.checkPop s.opWidth.bytes 2
      if (rplOf s.returnSel).toNat < s.cpl.toNat then raiseGPSel s.returnSel
      else if rplOf s.returnSel = s.cpl then s.retFarSame imm
      else s.retFarOuter imm) := by
  rw [State.retFar, State.noLock_passes unlocked, m]

theorem State.retFar_selectorOut (outside : s.inLimit .ss (s.stackUp s.opWidth.bytes) 2 = false) :
    s.retFar imm = raise .stackFault (some 0) := by
  rw [State.retFar_prot unlocked m, check_stops (State.checkPop_out_of_prot m outside)]
  rfl

variable (may : s.MayPop s.opWidth.bytes 2)
include may

theorem State.retFar_inner (inner : (rplOf s.returnSel).toNat < s.cpl.toNat) :
    s.retFar imm = raiseGPSel s.returnSel := by
  rw [State.retFar_prot unlocked m, check_passes (State.checkPop_eq_ok.mpr may), if_pos inner]

/-- A far return to the same level, once it is known to be one. -/
theorem State.retFar_same (same : rplOf s.returnSel = s.cpl) : s.retFar imm = s.retFarSame imm := by
  rw [State.retFar_prot unlocked m, check_passes (State.checkPop_eq_ok.mpr may), if_neg (same ▸ Nat.lt_irrefl _),
    if_pos same]

end

/-! ### The listing of rule R405 -/

section
variable {s : State} {imm : Nat}

theorem State.retFarSame_codeStops {stop : Stop} (code : s.returnCode s.returnSel s.cpl = .error stop) :
    s.retFarSame imm = .error stop := by
  rw [State.retFarSame, code, error_bind]

variable {d : Descriptor} (code : s.returnCode s.returnSel s.cpl = .ok d)
include code

theorem State.retFarSame_offsetOut (m : s.mode = .prot)
    (outside : s.inLimit .ss (s.stackUp 0) s.opWidth.bytes = false) :
    s.retFarSame imm = raise .stackFault (some 0) := by
  rw [State.retFarSame, code, ok_bind, check_stops (State.checkPop_out_of_prot m outside)]
  rfl

variable (offset : s.MayPop 0 s.opWidth.bytes)
include offset

theorem State.retFarSame_beyond (beyond : d.limit.toNat < (s.item 0 s.opWidth.bytes).toNat) :
    s.retFarSame imm = raiseGP0 := by
  rw [State.retFarSame, code, ok_bind, check_passes (State.checkPop_eq_ok.mpr offset), if_pos beyond]
  rfl

theorem State.retFarSame_completes (within : (s.item 0 s.opWidth.bytes).toNat ≤ d.limit.toNat) :
    s.retFarSame imm = .ok (((s.setSeg .cs (segmentOf s.returnSel d)).popped (2 * s.opWidth.bytes + imm)).jumpTo
      (s.item 0 s.opWidth.bytes)) := by
  rw [State.retFarSame, code, ok_bind, check_passes (State.checkPop_eq_ok.mpr offset), if_neg (Nat.not_lt.mpr within)]

end

/-! ### The statement -/

/-- Both forms run the far return. -/
theorem exec_retFar {s : State} {imm : BitVec 16} {i : Instr} (hi : i ∈ ([.retFar, .retFarImm imm] : List Instr)) :
    ∃ n, exec i s = outcome (s.retFar n) := by
  fin_cases hi
  · exact ⟨0, rfl⟩
  · exact ⟨imm.toNat, rfl⟩

open State in
/-- Settles O37: each test by the lemma of its place in the listing, and what is left passes them all. -/
theorem farReturnSameLevelCompletes : Obligations.FarReturnSameLevelCompletes := by
  refine ⟨?completes, ?stops⟩
  case completes =>
    intro s imm d unlocked m offset may same notNull read kind present within q hq
    have code := (returnCode_eq notNull read).2 d rfl (returnCodeFault_eq_none kind present)
    have runs : exec q.1 s = outcome (s.retFar q.2) := exec_of_table s.retFar rfl hq
    rw [runs, retFar_same unlocked m q.2 may same, retFarSame_completes code offset within, outcome_ok]
  case stops =>
    intro s imm d? unlocked m k sel i hi
    obtain ⟨n, runs⟩ := exec_retFar (s := s) hi
    rw [runs, outcome_eq_fault, outcome_eq_fault]
    refine ⟨retFar_selectorOut unlocked m n, fun may inner => ?inner, fun may rpl => ?same⟩
    case inner => exact retFar_inner unlocked m n may (rplOf_toNat sel ▸ inner)
    case same =>
      have same : rplOf sel = s.cpl := BitVec.eq_of_toNat_eq ((rplOf_toNat sel).trans rpl)
      rw [retFar_same unlocked m n may same]
      refine ⟨fun null => ?null, fun notNull read => ⟨fun f fault => ?codeFault, fun d found noFault =>
        have code := (returnCode_eq notNull read).2 d found noFault
        ⟨fun outside => ?offsetOut, fun offset beyond => ?beyond⟩⟩⟩
      case null => rw [retFarSame_codeStops (returnCode_null null)]; rfl
      case codeFault => rw [retFarSame_codeStops ((returnCode_eq notNull read).1 f fault)]; rfl
      case offsetOut => rw [retFarSame_offsetOut code m outside]; rfl
      case beyond => rw [retFarSame_beyond code offset beyond]; rfl

end Sys2Proof.Machine
end

section
/-! NOP, the flag instructions, SETcc, WAIT, XCHG and XLAT (rules R41, R430 to R450, R498 to R502): the condition codes, and
what each instruction completes with or stops with, with the statements about them settled. -/

namespace Sys2Proof.Machine

/-! ### Conditions (rule R433) -/

/-- The last bit of a condition code says whether the condition of the other three is negated. -/
theorem Flags.cond_append (f : Flags) (ttt : BitVec 3) (n : BitVec 1) :
    f.cond (ttt ++ n) = (f.condEven ttt.toNat ^^ n.getLsbD 0) := by
  have number : (ttt ++ n).toNat / 2 = ttt.toNat := by
    rw [append_toNat]
    omega
  have low : (ttt ++ n).getLsbD 0 = n.getLsbD 0 := BitVec.getLsbD_append
  rw [Flags.cond, number, low]

theorem Flags.cond_even (f : Flags) (ttt : BitVec 3) : f.cond (ttt ++ 0#1) = f.condEven ttt.toNat := by
  simp [f.cond_append]

theorem Flags.cond_odd (f : Flags) (ttt : BitVec 3) : f.cond (ttt ++ 1#1) = !f.condEven ttt.toNat := by
  simp [f.cond_append]

/-- Settles O3: each code is three bits with a last one, which decides between the even condition and its negation. -/
theorem conditionTable : Obligations.ConditionTable := by
  intro f
  have even (ttt) := Bool.eq_iff_iff.mp (f.cond_even ttt)
  have odd (ttt) := Bool.eq_iff_iff.mp (f.cond_odd ttt)
  refine ⟨even 0, ?no, even 1, ?nb, even 2, ?nz, ?be, ?nbe, even 4, ?ns, even 5, ?np, ?l, ?nl, ?le, ?nle,
    fun ttt => ?negates⟩
  case no => simpa [Flags.condEven] using odd 0
  case nb => simpa [Flags.condEven] using odd 1
  case nz => simpa [Flags.condEven] using odd 2
  case be => simpa [Flags.condEven] using even 3
  case nbe => simpa [Flags.condEven] using odd 3
  case ns => simpa [Flags.condEven] using odd 4
  case np => simpa [Flags.condEven] using odd 5
  case l => simpa [Flags.condEven] using even 6
  case nl => simpa [Flags.condEven] using odd 6
  case le => simpa [Flags.condEven] using even 7
  case nle => simpa [Flags.condEven] using odd 7
  case negates => rw [f.cond_odd, f.cond_even]

/-! ### Instructions that change flags only (rules R430, R431, R440 to R442, R498 to R502) -/

section
variable {s : State}

theorem State.onlyFlags_completes (unlocked : s.Unlocked) (f : Flags) :
    outcome (s.onlyFlags f) = .next (s.setFlags f).retire :=
  congrArg outcome (State.noLock_passes unlocked)

/-- Flags replaced by an instruction that ends: besides, EIP, the shadow and the model's own `eipCarry` and `ctx`. -/
theorem State.setFlags_retire_eq (s : State) (f : Flags) :
    (s.setFlags f).retire =
      { s with flags := f, eip := s.eip + BitVec.ofNat 32 s.ctx.len, eipCarry := s.nextCarry, inhibit := .none,
               ctx := {} } := rfl

/-- AH is bits 15:8 of EAX (rule R21). -/
theorem State.getLsbD_ah (s : State) {i : Nat} (h : i < 8) :
    (s.reg .b8 .esp).getLsbD i = s.regs.eax.getLsbD (8 + i) := by
  have high : s.reg .b8 .esp = (s.regs.eax.extractLsb' 8 8).setWidth 32 := rfl
  have word : i < 32 := by omega
  simp [high, h, word]

theorem Flags.sahf_ah (s : State) :
    s.flags.sahf (s.reg .b8 .esp) =
      { s.flags with sf := s.regs.eax.getLsbD 15, zf := s.regs.eax.getLsbD 14, af := s.regs.eax.getLsbD 12,
                     pf := s.regs.eax.getLsbD 10, cf := s.regs.eax.getLsbD 8 } := by
  have ah {i} := s.getLsbD_ah (i := i)
  rw [Flags.sahf, ah (by decide), ah (by decide), ah (by decide), ah (by decide), ah (by decide)]

/-- Settles O41: one byte each, and only the flags of `State.onlyFlags`. -/
theorem flagInstructions : Obligations.FlagInstructions := by
  intro s o a rest
  refine ⟨decodeEncode o a .sahf rest rfl, decodeEncode o a .stc rest rfl, decodeEncode o a .std rest rfl,
    fun unlocked => ?effect⟩
  have completes (f : Flags) := (State.onlyFlags_completes unlocked f).trans (congrArg _ (s.setFlags_retire_eq f))
  have sahf : exec .sahf s = _ := completes (s.flags.sahf (s.reg .b8 .esp))
  rw [Flags.sahf_ah] at sahf
  exact ⟨⟨_, sahf⟩, ⟨_, completes _⟩, ⟨_, completes _⟩⟩

theorem State.checkIfAccess_passes (prot : s.mode = .prot → s.cpl.toNat ≤ s.flags.iopl.toNat)
    (v86 : s.mode = .v86 → s.cfg.v86StiFaults = true → s.flags.iopl = 3) : s.checkIfAccess = .ok () := by
  rw [State.checkIfAccess]
  cases mode : s.mode with
  | real => rfl
  | v86 =>
    refine if_neg fun denied => ?_
    obtain ⟨faults, low⟩ := (Bool.and_eq_true _ _).mp denied
    exact bne_iff_ne.mp low (v86 mode faults)
  | prot => exact if_neg (Nat.not_lt.mpr (prot mode))

/-- CLI and STI complete when the mode lets them reach IF. -/
theorem State.ifAccess_completes (unlocked : s.Unlocked) (may : s.checkIfAccess = .ok ()) (u : State) :
    outcome (do s.noLock; s.checkIfAccess; .ok u) = .next u := by
  rw [State.noLock_passes unlocked, check_passes may, outcome_ok]

/-! ### WAIT (rule R446) -/

theorem execWait_taskSwitched (unlocked : s.Unlocked) (ts : s.ts = true) :
    exec .wait s = .fault (.exception .coprocessorNotAvailable none) := by
  refine outcome_eq_fault.mpr ((State.noLock_passes unlocked).trans ?_)
  rw [if_pos ts]
  rfl

/-- Without TS the pins decide. -/
theorem execWait_eq (unlocked : s.Unlocked) (ts : s.ts = false) :
    exec .wait s = outcome (if s.busy then .ok s.hold else if s.coprocError then raise .coprocessorError none
      else .ok s.retire) := by
  refine congrArg outcome ((State.noLock_passes unlocked).trans ?_)
  rw [ts]
  rfl

theorem State.pins_inactive (h : s.cfg.has387 = true → s.busyPin = false ∧ s.errorPin = false) :
    s.busy = false ∧ s.coprocError = false := by
  unfold State.busy State.coprocError
  cases present : s.cfg.has387 with
  | false => exact ⟨rfl, rfl⟩
  | true => exact h present

end

open State in
/-- Settles O42: the flag instructions by their shared meanings, WAIT by TS and the pins in the order of rule R446. -/
theorem plainFlagChangesComplete : Obligations.PlainFlagChangesComplete := by
  intro s unlocked
  refine ⟨congrArg outcome (noLock_passes unlocked), onlyFlags_completes unlocked _, onlyFlags_completes unlocked _,
    onlyFlags_completes unlocked _, fun prot v86 => ?ifAccess, execWait_taskSwitched unlocked,
    fun ts present busy => ?holds, fun ts present idle error => ?error, fun ts inactive => ?completes⟩
  case ifAccess =>
    have may := checkIfAccess_passes prot v86
    exact ⟨ifAccess_completes unlocked may _, ifAccess_completes unlocked may _⟩
  case holds =>
    have busy : s.busy = true := by rw [State.busy, present, busy]; rfl
    rw [execWait_eq unlocked ts, busy]
    rfl
  case error =>
    have idle : s.busy = false := by rw [State.busy, present, idle]; rfl
    have error : s.coprocError = true := by rw [State.coprocError, present, error]; rfl
    rw [execWait_eq unlocked ts, idle, error]
    rfl
  case completes =>
    obtain ⟨idle, noError⟩ := pins_inactive inactive
    rw [execWait_eq unlocked ts, idle, noError]
    rfl

/-! ### XCHG, XLAT and SETcc (rules R432, R448 to R450) -/

section
variable {s : State} {w : Width} {rm : RM} {r : Reg}

theorem exec_xchgRM {q : Instr × Width}
    (hq : q ∈ ([(.xchgRm8R8 rm r, .b8), (.xchgRmvRv rm r, s.opWidth)] : List (Instr × Width))) :
    exec q.1 s = outcome (s.xchgRM q.2 rm r) :=
  exec_of_table (fun w => s.xchgRM w rm r) rfl hq

theorem State.xchgRM_completes (lock : s.LockFits rm) (may : s.MayWrite w (s.place rm)) :
    s.xchgRM w rm r =
      .ok ((s.writeAt w (s.place rm) (s.reg w r)).setReg w r (s.readAt w (s.place rm))).retire :=
  (check_passes (State.lockMem_eq_ok.mpr lock)).trans (check_passes (State.checkWrite_eq_ok.mpr may))

theorem State.xchgRM_stops {e : Stop} (lock : s.LockFits rm) (h : s.checkWrite w (s.place rm) = .error e) :
    s.xchgRM w rm r = .error e :=
  (check_passes (State.lockMem_eq_ok.mpr lock)).trans (check_stops h)

theorem execXchgAxReg_completes (unlocked : s.Unlocked) :
    exec (.xchgAxReg r) s = .next
      ((s.setReg s.opWidth .eax (s.reg s.opWidth r)).setReg s.opWidth r (s.reg s.opWidth .eax)).retire :=
  congrArg outcome (State.noLock_passes unlocked)

/-- The offset of the table entry as a number (rule R450). -/
theorem State.xlatOff_toNat (s : State) :
    s.xlatOff.toNat = (s.regs.ebx.toNat + s.regs.eax.toNat % 2 ^ 8) % 2 ^ s.addrWidth.bits := by
  have ebx : (s.reg s.addrWidth .ebx).toNat = s.regs.ebx.toNat % 2 ^ s.addrWidth.bits :=
    s.reg_toNat (by unfold State.addrWidth; cases s.addrSize <;> decide) .ebx
  have al : (s.reg .b8 .eax).toNat = s.regs.eax.toNat % 2 ^ 8 := by
    simp [State.reg_b8, byteHome, byteShift, GRegs.get]
    omega
  have sum := s.addrWidth.trunc_add_toNat (s.reg s.addrWidth .ebx) (s.reg .b8 .eax).toNat
  rwa [BitVec.ofNat_toNat, BitVec.setWidth_eq, ebx, al, Nat.mod_add_mod] at sum

/-- XLAT makes the check of a read of one byte, and loads AL (rule R450). -/
theorem execXlat_eq (unlocked : s.Unlocked) :
    exec .xlat s = outcome (do
      s.checkRead .b8 (.mem (s.segOr .ds) s.xlatOff)
      .ok ((Place.reg .eax).finish .b8 (s.load (s.segOr .ds) s.xlatOff 1, s))) := by
  refine congrArg outcome ((State.noLock_passes unlocked).trans ?_)
  rw [State.memRead, State.checkRead, Width.bytes]
  cases s.checkAccess .read (s.segOr .ds) s.xlatOff 1 <;> rfl

theorem State.setCond_eq (unlocked : s.Unlocked) (tttn : BitVec 4) :
    s.setCond tttn rm = (do
      s.checkWrite .b8 (s.place rm)
      .ok ((s.place rm).finish .b8 (if s.flags.cond tttn then 1 else 0, s))) :=
  State.noLock_passes unlocked

end

open State in
/-- Settles O44: XCHG and SETcc make the write check of their r/m operand, XLAT the read check of the entry's byte. -/
theorem exchangeTranslateAndSetComplete : Obligations.ExchangeTranslateAndSetComplete := by
  intro s rm r
  have entry {off : Word}
      (h : off.toNat = (s.regs.ebx.toNat + s.regs.eax.toNat % 2 ^ 8) % 2 ^ s.addrWidth.bits) : off = s.xlatOff :=
    BitVec.eq_of_toNat_eq (h.trans s.xlatOff_toNat.symm)
  refine ⟨fun lock q hq may => ?xchg, execXchgAxReg_completes, fun unlocked off value may => ?xlat,
    fun unlocked may => ?set, fun lock q hq => ?xchgStops, fun unlocked off value => ?xlatStops,
    fun unlocked => ?setStops⟩
  case xchg => rw [exec_xchgRM hq, xchgRM_completes lock may, outcome_ok]
  case xlat =>
    obtain rfl := entry value
    exact exec_of_check (execXlat_eq unlocked) (checkRead_eq_ok.mpr may)
  case set =>
    intro q hq
    have runs := exec_of_table (s := s) (fun tttn => s.setCond tttn rm) rfl hq
    rw [setCond_eq unlocked] at runs
    exact exec_of_check runs (checkWrite_eq_ok.mpr may)
  case xchgStops => exact stopsWithCheck_write (exec_xchgRM hq) fun e => xchgRM_stops lock
  case xlatStops =>
    obtain rfl := entry value
    exact stopsWithCheck_read (execXlat_eq unlocked) fun e h => check_stops h
  case setStops =>
    simp only [List.forall_mem_cons, List.not_mem_nil, false_imp_iff, implies_true, and_true]
    have stops {i tttn} (runs : exec i s = outcome (s.setCond tttn rm)) : s.StopsWithCheck i .write .b8 (s.place rm) :=
      stopsWithCheck_write (runs.trans (congrArg outcome (setCond_eq unlocked tttn))) fun e h => check_stops h
    exact ⟨stops rfl, stops rfl, stops rfl, stops rfl, stops rfl, stops rfl, stops rfl, stops rfl, stops rfl, stops rfl,
      stops rfl, stops rfl, stops rfl, stops rfl, stops rfl, stops rfl⟩

end Sys2Proof.Machine
end

section
/-! SGDT, SIDT, SLDT, STR, VERR and VERW (rules R147, R460 to R468): the checks of each in their order and what it
completes with, with the statements about them settled. -/

namespace Sys2Proof.Machine

/-! ### SGDT and SIDT (rules R460 to R462) -/

section
variable {s : State} {rm : RM} {x : TableReg} {g : SegReg} {off : Word} {i : Instr}

theorem State.tableBaseOff_toNat (s : State) (off : Word) :
    (s.tableBaseOff off).toNat = (off.toNat + 2) % 2 ^ s.addrWidth.bits :=
  s.addrWidth.trunc_add_toNat off 2

/-- BASE as stored: its low three bytes under its own highest one, or under a drawn one with `OpSize` 16. -/
theorem State.tableBase_eq (s : State) (base : Word) :
    ∃ top : Byte, (s.opSize = .s32 → top = base.extractLsb' 24 8) ∧
      s.tableBase base = top ++ base.extractLsb' 0 24 := by
  cases size : s.opSize with
  | s16 => exact ⟨_, (by cases ·), by rw [State.tableBase, size]⟩
  | s32 =>
    refine ⟨_, fun _ => rfl, ?_⟩
    rw [State.tableBase, size]
    refine BitVec.eq_of_getLsbD_eq fun i hi => ?_
    rw [BitVec.getLsbD_append]
    by_cases low : i < 24
    · simp [low]
    · have high : i - 24 < 8 := by omega
      simp [low, high, show 24 + (i - 24) = i by omega]

theorem State.storeTable_reg (unlocked : s.Unlocked) (r : Reg) : s.storeTable x (.reg r) = raiseUD :=
  State.noLock_passes unlocked

theorem State.storeTable_mem (unlocked : s.Unlocked) (h : s.place rm = .mem g off) :
    s.storeTable x rm = (do s.checkTableStore g off; .ok (s.tableStored x g off).retire) := by
  rw [State.storeTable, State.noLock_passes unlocked, h]

/-- The fault of the six bytes stands before the checks of the two stores. -/
theorem State.checkTableStore_fault {f : Fault} (h : s.accessFault .write g off 6 = some f) :
    s.checkTableStore g off = .error (.fault f) :=
  check_stops (State.checkFault_of_some h)

theorem State.checkTableStore_limit {e : Stop} (whole : s.accessFault .write g off 6 = none)
    (h : s.checkAccess .write g off 2 = .error e) : s.checkTableStore g off = .error e :=
  (check_passes (State.checkFault_eq_ok.mpr whole)).trans (check_stops h)

theorem State.checkTableStore_base {e : Stop} (whole : s.accessFault .write g off 6 = none)
    (limit : s.MayAccess .write g off 2) (h : s.checkAccess .write g (s.tableBaseOff off) 4 = .error e) :
    s.checkTableStore g off = .error e :=
  (check_passes (State.checkFault_eq_ok.mpr whole)).trans ((check_passes (State.checkAccess_eq_ok.mpr limit)).trans h)

end

open State in
/-- Settles O45: the three checks in their order, and the two stores behind them. -/
theorem tableStoresComplete : Obligations.TableStoresComplete := by
  intro s rm unlocked q hq
  have runs := exec_of_table (s := s) (fun x => s.storeTable x rm) rfl hq
  refine ⟨fun r reg => ?register, fun g off next place value => ?memory⟩
  case register =>
    subst reg
    rw [runs, storeTable_reg unlocked]
    rfl
  case memory =>
    obtain rfl : next = s.tableBaseOff off := BitVec.eq_of_toNat_eq (value.trans (s.tableBaseOff_toNat off).symm)
    rw [storeTable_mem unlocked place] at runs
    refine ⟨fun f fault => ?whole, fun whole => ⟨?limit, fun limit => ?base, fun limit base => ?completes⟩⟩
    case whole =>
      rw [runs, check_stops (checkTableStore_fault fault)]
      rfl
    case limit => exact stopsWithCheck_write runs fun e h => check_stops (checkTableStore_limit whole h)
    case base => exact stopsWithCheck_write runs fun e h => check_stops (checkTableStore_base whole limit h)
    case completes =>
      obtain ⟨top, kept, stored⟩ := s.tableBase_eq q.2.base
      refine ⟨top, kept, ?_⟩
      rw [← stored]
      exact exec_of_check runs (checkTableStore_eq_ok.mpr ⟨whole, limit, base⟩)

/-! ### The instructions of protected mode only (rules R147, R468) -/

section
variable {s : State} {rm : RM}

theorem State.protectedOnly_raises (m : s.mode ≠ .prot) : s.protectedOnly = raiseUD := by
  unfold State.protectedOnly
  cases h : s.mode with
  | prot => exact absurd h m
  | real | v86 => rfl

/-- An instruction that is not recognised outside protected mode. -/
theorem State.notRecognised (unlocked : s.Unlocked) (m : s.mode ≠ .prot) (rest : M State) :
    outcome (do s.noLock; s.protectedOnly; rest) = .fault (.exception .invalidOpcode none) := by
  rw [State.noLock_passes unlocked, State.protectedOnly_raises m]
  rfl

theorem State.recognised (unlocked : s.Unlocked) (m : s.mode = .prot) (rest : M State) :
    (do s.noLock; s.protectedOnly; rest) = rest :=
  (State.noLock_passes unlocked).trans (check_passes (State.protectedOnly_eq_ok.mpr m))

/-! ### SLDT and STR (rules R463, R465) -/

theorem State.storeSel_eq (unlocked : s.Unlocked) (m : s.mode = .prot) (sel : Half) :
    s.storeSel sel rm = (do
      s.checkWrite .w16 (s.place rm)
      .ok ((s.place rm).finish .w16 (sel.setWidth 32, s))) :=
  State.recognised unlocked m _

/-! ### VERR and VERW (rules R466, R467) -/

/-- The selector that VERR or VERW reads. -/
def State.operandSel (s : State) (rm : RM) : Half := (s.readAt .w16 (s.place rm)).extractLsb' 0 16

/-- A selector that is null or not in its table is not accessible, whatever is asked of the descriptor. -/
def State.accessible (s : State) (ok : Descriptor → BitVec 2 → BitVec 2 → Bool) (sel : Half) (d? : Option Descriptor) :
    Bool :=
  d?.elim false fun d => ok d (rplOf sel) s.cpl

theorem State.verify_stops {ok : Descriptor → BitVec 2 → BitVec 2 → Bool} {e : Stop} (unlocked : s.Unlocked)
    (m : s.mode = .prot) (h : s.checkRead .w16 (s.place rm) = .error e) : s.verify ok rm = .error e := by
  refine (State.recognised unlocked m _).trans ?_
  rw [State.readRM, check_stops h]
  rfl

theorem State.verify_null (unlocked : s.Unlocked) (m : s.mode = .prot) (may : s.MayRead .w16 (s.place rm))
    (null : (s.operandSel rm).toNat < 4) (ok : Descriptor → BitVec 2 → BitVec 2 → Bool) :
    s.verify ok rm = .ok (s.setFlags { s.flags with zf := false }).retire := by
  refine (State.recognised unlocked m _).trans ?_
  rw [State.readRM_eq_ok.mpr ⟨may, rfl⟩, ok_bind]
  exact if_pos (isNull_iff.mpr null)

theorem State.verify_notNull (unlocked : s.Unlocked) (m : s.mode = .prot) (may : s.MayRead .w16 (s.place rm))
    (notNull : 4 ≤ (s.operandSel rm).toNat) {d? : Option Descriptor}
    (found : s.readDescriptor (s.operandSel rm) = .ok d?)
    (ok : Descriptor → BitVec 2 → BitVec 2 → Bool) :
    s.verify ok rm = .ok (s.setFlags { s.flags with zf := s.accessible ok (s.operandSel rm) d? }).retire := by
  refine (State.recognised unlocked m _).trans ?_
  rw [State.readRM_eq_ok.mpr ⟨may, rfl⟩, ok_bind]
  refine (if_neg (ne_true_of_eq_false (isNull_eq_false notNull))).trans ?_
  change (s.readDescriptor (s.operandSel rm) >>= _) = _
  rw [found]
  cases d? <;> rfl

theorem State.accessible_iff {ok : Descriptor → BitVec 2 → BitVec 2 → Bool} {sel : Half} {d? : Option Descriptor} :
    s.accessible ok sel d? = true ↔ ∃ d, d? = some d ∧ ok d (rplOf sel) s.cpl = true := by
  cases d? <;> simp [State.accessible]

theorem Rights.readable_iff {ar : Rights} :
    ar.readable = true ↔ (∃ x y, ar.kind = .data x y) ∨ ∃ y, ar.kind = .code true y := by
  rw [Rights.readable]
  rcases ar.kind with _ | ⟨_ | _, _⟩ | _ <;> simp

theorem Rights.writable_iff {ar : Rights} : ar.writable = true ↔ ∃ y, ar.kind = .data true y := by
  rw [Rights.writable]
  rcases ar.kind with ⟨_ | _, _⟩ | _ | _ <;> simp

theorem verrOK_iff {d : Descriptor} {sel : Half} {cpl : BitVec 2} :
    verrOK d (rplOf sel) cpl = true ↔ ((∃ x, d.rights.kind = .code x true) ∨
        (sel.toNat % 4 ≤ d.rights.dpl.toNat ∧ cpl.toNat ≤ d.rights.dpl.toNat)) ∧
      ((∃ x y, d.rights.kind = .data x y) ∨ ∃ y, d.rights.kind = .code true y) := by
  rw [verrOK, Bool.and_eq_true, Rights.readable_iff, Descriptor.dataPrivOK_eq_true, and_comm]

theorem verwOK_iff {d : Descriptor} {sel : Half} {cpl : BitVec 2} :
    verwOK d (rplOf sel) cpl = true ↔ ((∃ x, d.rights.kind = .code x true) ∨
        (sel.toNat % 4 ≤ d.rights.dpl.toNat ∧ cpl.toNat ≤ d.rights.dpl.toNat)) ∧
      ∃ y, d.rights.kind = .data true y := by
  rw [verwOK, Bool.and_eq_true, Rights.writable_iff, Descriptor.dataPrivOK_eq_true, and_comm]

end

open State in
/-- Settles O46: each instruction tests the mode first; SLDT and STR then make the write check, VERR and VERW the read
check before they look at the descriptor. -/
theorem selectorInstructionsComplete : Obligations.SelectorInstructionsComplete := by
  intro s rm r unlocked
  refine ⟨fun m => ?otherModes, fun m may => ?stores, fun m => ?stops, fun m may => ?verifies⟩
  case otherModes =>
    simp only [List.forall_mem_cons, List.not_mem_nil, false_imp_iff, implies_true, and_true]
    have raises {rest} := notRecognised unlocked m rest
    exact ⟨raises, raises, raises, raises, raises, raises, raises, raises, raises⟩
  case stores =>
    have completes {i sel} (runs : exec i s = outcome (s.storeSel sel rm)) :=
      exec_of_check (runs.trans (congrArg outcome (storeSel_eq unlocked m sel))) (checkWrite_eq_ok.mpr may)
    exact ⟨completes rfl, completes rfl⟩
  case stops =>
    have write {i sel} (runs : exec i s = outcome (s.storeSel sel rm)) :=
      stopsWithCheck_write (runs.trans (congrArg outcome (storeSel_eq unlocked m sel))) fun e h => check_stops h
    have read {i ok} (runs : exec i s = outcome (s.verify ok rm)) :=
      stopsWithCheck_read runs fun e => verify_stops unlocked m
    exact ⟨write rfl, write rfl, read rfl, read rfl⟩
  case verifies =>
    refine ⟨fun null => ?null, fun d? notNull found => ⟨?verr, ?verw⟩⟩
    case null =>
      simp only [List.forall_mem_cons, List.not_mem_nil, false_imp_iff, implies_true, and_true]
      have completes (ok) := congrArg outcome (verify_null unlocked m may null ok)
      exact ⟨completes verrOK, completes verwOK⟩
    case verr =>
      refine ⟨_, accessible_iff.trans ?_, congrArg outcome (verify_notNull unlocked m may notNull found verrOK)⟩
      simp only [verrOK_iff]
      rfl
    case verw =>
      refine ⟨_, accessible_iff.trans ?_, congrArg outcome (verify_notNull unlocked m may notNull found verwOK)⟩
      simp only [verwOK_iff]
      rfl

end Sys2Proof.Machine
end

section
/-! Jcc, JCXZ, the LOOPs and JMP relative (rules R404, R480, R519 to R521, R532): the target as a number and the three ways
in which a branch ends, with the statements about them settled. -/

namespace Sys2Proof.Machine

/-! ### Targets (rules R138, R519) -/

theorem signExtend_eq_ofInt {n : Nat} (d : BitVec n) : d.signExtend 32 = BitVec.ofInt 32 d.toInt := rfl

theorem eq_ofInt_toInt {n : Nat} (d : BitVec n) : d = BitVec.ofInt n d.toInt := d.ofInt_toInt.symm

/-- The displacement of a branch as a number (rule R138). -/
def relNumber (rel : Rel) (o : Size) : Int :=
  match rel, o with
  | .short d, _ => d.toInt
  | .near d, .s16 => (d.extractLsb' 0 16).toInt
  | .near d, .s32 => d.toInt

theorem relOf_eq_ofInt (o : Size) (rel : Rel) : relOf o rel = BitVec.ofInt 32 (relNumber rel o) := by
  cases rel with
  | short d => exact signExtend_eq_ofInt d
  | near d =>
    cases o with
    | s16 => exact signExtend_eq_ofInt _
    | s32 => exact eq_ofInt_toInt d

/-- The number of targets: 2^16 with `OpSize` 16 (rule R519). -/
def targetModulus (o : Size) : Int :=
  match o with
  | .s16 => 2 ^ 16
  | .s32 => 2 ^ 32

section
variable {s : State} {rel : Word} {take : Bool}

theorem State.relTarget_toNat {d : Int} (h : rel = BitVec.ofInt 32 d) :
    ((s.relTarget rel).toNat : Int) = ((s.eip.toNat : Int) + s.ctx.len + d) % targetModulus s.opSize := by
  have sum : s.eipNext + rel = BitVec.ofInt 32 (s.eip.toNat + s.ctx.len + d) := by
    rw [State.eipNext, h, BitVec.ofInt_add, BitVec.ofInt_add, BitVec.ofInt_natCast, BitVec.ofInt_natCast,
      BitVec.ofNat_toNat, BitVec.setWidth_eq]
  rw [State.relTarget, sum]
  cases s.opSize with
  | s16 =>
    have low (v : Word) : (v &&& 0xFFFF).toNat = v.toNat % 2 ^ 16 := by
      rw [BitVec.toNat_and]
      exact Nat.and_two_pow_sub_one_eq_mod _ 16
    have value := toNat_of_eq_ofInt (w := 32) (x := s.eip.toNat + s.ctx.len + d) rfl
    simp only [low, targetModulus]
    omega
  | s32 => exact toNat_of_eq_ofInt rfl

/-! ### The ends of a branch (rules R404, R480, R519) -/

theorem State.branch_refused (unlocked : s.Unlocked) (disabled : s.cfg.acceptGkBranches = false) :
    s.branch take rel = refuse .branchesDisabled := by
  rw [State.branch, State.noLock_passes unlocked, State.branchesOk, disabled]
  rfl

theorem State.branch_eq (unlocked : s.Unlocked) (accepted : s.cfg.acceptGkBranches = true) :
    s.branch take rel = if take then s.jump (s.relTarget rel) else .ok s.retire := by
  rw [State.branch, State.noLock_passes unlocked, State.branchesOk, accepted]
  rfl

/-- The state that an instruction branches from: `s` itself, or `s` with a count register that has gone down. -/
def State.BranchesFrom (s u : State) : Prop := ∃ g, u = { s with regs := g }

theorem State.branchesFrom_self : s.BranchesFrom s := ⟨s.regs, rfl⟩

theorem State.branchesFrom_countDown : s.BranchesFrom s.countDown := ⟨_, s.setReg_eq s.addrWidth .ecx _⟩

section
variable {u : State} {i : Instr} (unlocked : s.Unlocked) (src : s.BranchesFrom u)
  (runs : exec i s = outcome (u.branch take rel))
include unlocked src runs

/-- The condition and the code limit decide how an instruction that branches ends. -/
theorem exec_branch_ends (accepted : s.cfg.acceptGkBranches = true) :
    let limit := if s.mode = .prot then s.segs.cs.limit.toNat else 0xFFFF
    (take = false → exec i s = .next u.retire) ∧
      (take = true → (s.relTarget rel).toNat ≤ limit → exec i s = .next (u.jumpTo (s.relTarget rel))) ∧
      (take = true → limit < (s.relTarget rel).toNat →
        exec i s = .fault (.exception .generalProtection (if s.mode = .real then none else some 0))) := by
  obtain ⟨g, rfl⟩ := src
  rw [State.branch_eq (s := { s with regs := g }) unlocked accepted] at runs
  rw [← s.codeLimit_eq, ← s.codeFault_eq]
  refine ⟨fun skips => ?_, fun jumps within => ?_, fun jumps above => ?_⟩
  · rw [runs, skips]
    rfl
  · rw [runs, if_pos jumps]
    exact congrArg outcome (if_pos within)
  · rw [runs, if_pos jumps]
    exact congrArg outcome (if_neg (Nat.not_le.mpr above))

/-- The same of a displacement known as a number, its target with it. -/
theorem exec_branch_reaches (accepted : s.cfg.acceptGkBranches = true) {d : Int} (h : rel = BitVec.ofInt 32 d) :
    ∃ t : Word, (t.toNat : Int) = ((s.eip.toNat : Int) + s.ctx.len + d) % targetModulus s.opSize ∧
      (take = false → exec i s = .next u.retire) ∧
      (take = true → t.toNat ≤ (if s.mode = .prot then s.segs.cs.limit.toNat else 0xFFFF) →
        exec i s = .next (u.jumpTo t)) ∧
      (take = true → (if s.mode = .prot then s.segs.cs.limit.toNat else 0xFFFF) < t.toNat →
        exec i s = .fault (.exception .generalProtection (if s.mode = .real then none else some 0))) :=
  ⟨s.relTarget rel, State.relTarget_toNat h, exec_branch_ends unlocked src runs accepted⟩

theorem exec_branch_refused (disabled : s.cfg.acceptGkBranches = false) : exec i s = .refused .branchesDisabled := by
  obtain ⟨g, rfl⟩ := src
  exact runs.trans (outcome_eq_refused.mpr (State.branch_refused unlocked disabled))

end

theorem exec_loop_ends {also more : Bool} {i : Instr} {rel : BitVec 8}
    (runs : exec i s = outcome (s.loopBranch also rel)) (h : more = (s.countDown.count != 0 && also)) :
    exec i s = outcome (s.countDown.branch more (rel.signExtend 32)) := by
  rw [runs, h]
  rfl

end

/-! ### The statements -/

/-- Settles O39: the sixteen conditions share one branch, whose displacement is the signed number in the encoding. -/
theorem conditionalJumpsComplete : Obligations.ConditionalJumpsComplete := by
  intro s rel unlocked
  refine ⟨fun disabled => ?refused, fun accepted => ⟨s.relTarget (relOf s.opSize rel), ?target, fun q hq => ?ends⟩⟩
  case refused =>
    simp only [List.forall_mem_cons, List.not_mem_nil, false_imp_iff, implies_true, and_true]
    have refused {i take} (runs : exec i s = outcome (s.branch take (relOf s.opSize rel))) :=
      exec_branch_refused unlocked s.branchesFrom_self runs disabled
    exact ⟨refused rfl, refused rfl, refused rfl, refused rfl, refused rfl, refused rfl, refused rfl, refused rfl,
      refused rfl, refused rfl, refused rfl, refused rfl, refused rfl, refused rfl, refused rfl, refused rfl⟩
  case target => exact State.relTarget_toNat (relOf_eq_ofInt s.opSize rel)
  case ends =>
    have runs := exec_of_table (fun tttn => s.branch (s.flags.cond tttn) (relOf s.opSize rel)) rfl hq
    exact exec_branch_ends unlocked s.branchesFrom_self runs accepted

/-- Settles O40: the six instructions are one branch, the LOOPs from the state that they have counted down to. -/
theorem countedAndPlainJumpsComplete : Obligations.CountedAndPlainJumpsComplete := by
  intro s rel relv unlocked
  refine ⟨fun disabled => ?refused, fun accepted => ?ends⟩ <;>
    simp only [-eq_self, List.forall_mem_cons, List.not_mem_nil, false_imp_iff, implies_true, and_true]
  case refused =>
    have plain {i take rel} (runs : exec i s = outcome (s.branch take rel)) :=
      exec_branch_refused unlocked s.branchesFrom_self runs disabled
    have loops {i also} (runs : exec i s = outcome (s.loopBranch also rel)) :=
      exec_branch_refused unlocked s.branchesFrom_countDown (exec_loop_ends runs rfl) disabled
    exact ⟨plain rfl, loops rfl, loops rfl, loops rfl, plain rfl, plain rfl⟩
  case ends =>
    have short := signExtend_eq_ofInt rel
    have plain {i take rel d} (runs : exec i s = outcome (s.branch take rel)) (h : rel = BitVec.ofInt 32 d) :=
      exec_branch_reaches unlocked s.branchesFrom_self runs accepted h
    have loops {i more also} (runs : exec i s = outcome (s.loopBranch also rel))
        (h : more = (s.countDown.count != 0 && also)) :=
      exec_branch_reaches unlocked s.branchesFrom_countDown (exec_loop_ends runs h) accepted short
    refine ⟨plain rfl short, loops rfl ?loop, loops rfl ?loope, loops rfl ?loopne, plain rfl short,
      plain rfl ?near⟩
    case loop => exact Bool.eq_iff_iff.mpr (by simp)
    case loope => exact Bool.eq_iff_iff.mpr (by simp)
    case loopne => exact Bool.eq_iff_iff.mpr (by simp)
    case near => exact (relOf_eq_ofInt s.opSize (.near relv)).trans (by cases s.opSize <;> rfl)

end Sys2Proof.Machine
end

section
/-! The control state over one step (rules R35, R36, R38, R39, R211, R340, R406, R630, R631, R661): what an instruction may
change of it, what a step makes of the state before its instruction, with the statement about it settled. -/

namespace Sys2Proof.Machine

/-! ### What one instruction may change -/

/-- What an instruction keeps of the control state, and the privilege and the direction in which it changes the rest. -/
structure State.Controls (s t : State) : Prop where
  cfg : t.cfg = s.cfg
  gdtr : t.gdtr = s.gdtr
  idtr : t.idtr = s.idtr
  ldtr : t.ldtr = s.ldtr
  taskr : t.taskr = s.taskr
  busyPin : t.busyPin = s.busyPin
  errorPin : t.errorPin = s.errorPin
  intrPending : t.intrPending = s.intrPending
  nmiPending : t.nmiPending = s.nmiPending
  vm : t.flags.vm = s.flags.vm
  rf : t.flags.rf = s.flags.rf
  protLevel : s.pe = true → s.cpl.toNat ≤ t.cpl.toNat
  realLevel : s.pe = false → t.cpl = if t.pe then 0 else s.cpl
  staysProt : s.pe = true → t.pe = true
  paging : s.pg = false → t.pg = false
  breakpoints : s.dr7.extractLsb' 0 8 = 0 → t.dr7.extractLsb' 0 8 = 0
  cr3 : s.cr3.extractLsb' 0 12 = 0 → t.cr3.extractLsb' 0 12 = 0
  special : (∃ c, t.creg c ≠ s.creg c) ∨ (∃ d, t.dreg d ≠ s.dreg d) → s.Privileged
  iopl : t.flags.iopl ≠ s.flags.iopl → s.mode = .real ∨ s.cpl = 0
  ifl : t.flags.ifl ≠ s.flags.ifl → s.mode = .prot → s.cpl.toNat ≤ s.flags.iopl.toNat
  ioOut : t.ioOut = s.ioOut ∨ ∃ e, t.ioOut = s.ioOut ++ [e]

theorem State.Controls.refl (s : State) : s.Controls s where
  cfg := rfl
  gdtr := rfl
  idtr := rfl
  ldtr := rfl
  taskr := rfl
  busyPin := rfl
  errorPin := rfl
  intrPending := rfl
  nmiPending := rfl
  vm := rfl
  rf := rfl
  protLevel _ := Nat.le_refl _
  realLevel real := by rw [real]; rfl
  staysProt := id
  paging := id
  breakpoints := id
  cr3 := id
  special changed := by simp at changed
  iopl changed := absurd rfl changed
  ifl changed := absurd rfl changed
  ioOut := .inl rfl

section
variable {s t u : State} {rs : List Reg} {bs : List Nat}

/-- What is in a frame is no control state. -/
theorem State.Controls.framed (h : s.Controls u) (f : u.Frame t rs bs) : s.Controls t := by
  have creg : t.creg = u.creg := by
    funext c
    cases c with
    | cr0 => exact f.system.cr0
    | cr2 => exact f.system.cr2
    | cr3 => exact f.system.cr3
  have dreg : t.dreg = u.dreg := funext f.system.dr
  have pe : t.pe = u.pe := congrArg (fun v => v.getLsbD 0) f.system.cr0
  have pg : t.pg = u.pg := congrArg (fun v => v.getLsbD 31) f.system.cr0
  have dr7 : t.dr7 = u.dr7 := f.system.dr .dr7
  exact {
    cfg := f.system.cfg.trans h.cfg
    gdtr := f.system.gdtr.trans h.gdtr
    idtr := f.system.idtr.trans h.idtr
    ldtr := f.system.ldtr.trans h.ldtr
    taskr := f.system.taskr.trans h.taskr
    busyPin := f.system.busyPin.trans h.busyPin
    errorPin := f.system.errorPin.trans h.errorPin
    intrPending := f.system.intrPending.trans h.intrPending
    nmiPending := f.system.nmiPending.trans h.nmiPending
    vm := f.control.vm.trans h.vm
    rf := f.control.rf.trans h.rf
    protLevel := by rw [f.system.cpl]; exact h.protLevel
    realLevel := by rw [f.system.cpl, pe]; exact h.realLevel
    staysProt := by rw [pe]; exact h.staysProt
    paging := by rw [pg]; exact h.paging
    breakpoints := by rw [dr7]; exact h.breakpoints
    cr3 := by rw [f.system.cr3]; exact h.cr3
    special := by rw [creg, dreg]; exact h.special
    iopl := by rw [f.control.iopl]; exact h.iopl
    ifl := by rw [f.control.ifl]; exact h.ifl
    ioOut := by rw [f.ioOut]; exact h.ioOut }

theorem State.Frame.controls (f : s.Frame t rs bs) : s.Controls t := (State.Controls.refl s).framed f

theorem State.Touches.controls (h : s.Touches t rs bs) : s.Controls t := h.toFrame.controls

/-! ### One rule per change of control state -/

/-- The flags: VM and RF stay, IOPL and IF need their privilege. -/
theorem State.controls_setFlags {f : Flags} (vm : f.vm = s.flags.vm) (rf : f.rf = s.flags.rf)
    (iopl : f.iopl ≠ s.flags.iopl → s.mode = .real ∨ s.cpl = 0)
    (ifl : f.ifl ≠ s.flags.ifl → s.mode = .prot → s.cpl.toNat ≤ s.flags.iopl.toNat) : s.Controls (s.setFlags f) :=
  { State.Controls.refl s with vm := vm, rf := rf, iopl := iopl, ifl := ifl }

/-- The segment registers are no control state, and CPL only rises, in protected mode only. -/
theorem State.controls_withLevel (g : Segments) {level : BitVec 2} (rises : s.cpl.toNat ≤ level.toNat)
    (stays : s.mode ≠ .prot → level = s.cpl) : s.Controls { s with segs := g, cpl := level } :=
  { State.Controls.refl s with
    protLevel := fun _ => rises
    realLevel := fun real =>
      (stays (by simp [State.mode, real])).trans (if_neg (Bool.not_eq_true _ ▸ real)).symm }

theorem State.controls_setSeg (r : SegReg) (x : Segment) : s.Controls (s.setSeg r x) :=
  { State.Controls.refl s with }

theorem State.controls_withOutput {events : List IoOut} (h : events = s.ioOut ∨ ∃ e, events = s.ioOut ++ [e]) :
    s.Controls { s with ioOut := events } :=
  { State.Controls.refl s with ioOut := h }

theorem State.checkCreg_cr0_noPaging {v : Word} (h : s.checkCreg .cr0 v = .ok ()) : v.getLsbD 31 = false :=
  Bool.eq_false_of_not_eq_true fun paging => by cases h.symm.trans (State.checkCreg_paging paging)

theorem State.checkCreg_cr3_low {v : Word} (h : s.checkCreg .cr3 v = .ok ()) : v.extractLsb' 0 12 = 0 :=
  Decidable.of_not_not fun low => by cases h.symm.trans (if_neg low)

theorem checkDreg_dr7_low {v : Word} (h : checkDreg .dr7 v = .ok ()) : v.extractLsb' 0 8 = 0 :=
  Decidable.of_not_not fun low => by cases h.symm.trans (if_neg low)

/-- CR0 enters protected mode at level 0 and never leaves it, with no paging; CR3 has its low bits zero. -/
theorem State.controls_setCreg {c : CReg} {v : Word} (privileged : s.Privileged) (value : s.checkCreg c v = .ok ()) :
    s.Controls (s.setCreg c v) := by
  cases c with
  | cr0 =>
    have inProt : s.pe = true → (s.setCreg .cr0 v).cpl = s.cpl := fun prot => if_neg (by simp [prot])
    have inReal : s.pe = false → (s.setCreg .cr0 v).cpl = if v.getLsbD 0 then 0 else s.cpl := fun real => by
      simp only [State.setCreg, real, true_and]
    exact { State.Controls.refl s with
      protLevel := fun prot => (inProt prot).symm ▸ Nat.le_refl _
      realLevel := inReal
      staysProt := State.checkCreg_cr0_eq_ok value
      paging := fun _ => State.checkCreg_cr0_noPaging value
      special := fun _ => privileged }
  | cr2 => exact { State.Controls.refl s with special := fun _ => privileged }
  | cr3 =>
    exact { State.Controls.refl s with
      cr3 := fun _ => State.checkCreg_cr3_low value
      special := fun _ => privileged }

/-- DR7 enables no breakpoint. -/
theorem State.controls_setDreg {d : DReg} {v : Word} (privileged : s.Privileged) (value : checkDreg d v = .ok ()) :
    s.Controls (s.setDreg d v) := by
  cases d with
  | dr7 =>
    exact { State.Controls.refl s with
      breakpoints := fun _ => checkDreg_dr7_low value
      special := fun _ => privileged }
  | dr0 | dr1 | dr2 | dr3 | dr6 => exact { State.Controls.refl s with special := fun _ => privileged }

/-! ### The instructions that change control state -/

theorem execMovCrR32_controls {c : CReg} {r : Reg} (h : exec (.movCrR32 c r) s = .next t) : s.Controls t := by
  have ⟨_, h⟩ := check_eq_ok.mp (outcome_eq_next.mp h)
  have ⟨special, h⟩ := check_eq_ok.mp h
  obtain ⟨value, rfl⟩ := check_ok_eq_ok.mp h
  exact (State.controls_setCreg (State.checkSpecial_eq_ok.mp special) value).framed
    (State.Touches.refl _).undefineFlags.retire.toFrame

theorem execMovDrR32_controls {d : DReg} {r : Reg} (h : exec (.movDrR32 d r) s = .next t) : s.Controls t := by
  have ⟨_, h⟩ := check_eq_ok.mp (outcome_eq_next.mp h)
  have ⟨special, h⟩ := check_eq_ok.mp h
  obtain ⟨value, rfl⟩ := check_ok_eq_ok.mp h
  exact (State.controls_setDreg (State.checkSpecial_eq_ok.mp special) value).framed
    (State.Touches.refl _).undefineFlags.retire.toFrame

/-- POPF takes IF and IOPL from the image with their privilege only (rule R340). -/
theorem execPopf_controls (h : exec .popf s = .next t) : s.Controls t := by
  have ⟨_, h⟩ := check_eq_ok.mp (outcome_eq_next.mp h)
  have ⟨_, h⟩ := check_eq_ok.mp h
  obtain ⟨-, rfl⟩ := check_ok_eq_ok.mp h
  refine (State.controls_setFlags (by rfl) (by rfl) ?iopl ?ifl).framed (State.Touches.refl _).popped.retire.toFrame
  case iopl =>
    intro changed
    refine of_decide_eq_true (Bool.of_not_eq_false fun may => changed ?_)
    simp only [Flags.popped, may]
    rfl
  case ifl =>
    intro changed prot
    have may : s.mode = .real ∨ s.cpl.toNat ≤ s.flags.iopl.toNat := by
      refine of_decide_eq_true (Bool.of_not_eq_false fun may => changed ?_)
      simp only [Flags.popped, may]
      rfl
    exact may.resolve_left (by rw [prot]; decide)

/-- The check of CLI and STI in protected mode (rules R442, R500). -/
theorem State.checkIfAccess_eq_ok_prot (h : s.checkIfAccess = .ok ()) (prot : s.mode = .prot) :
    s.cpl.toNat ≤ s.flags.iopl.toNat := by
  rw [State.checkIfAccess, prot] at h
  exact Nat.not_lt.mp ((guard_eq_ok (by simp)).mp h).1

theorem State.controls_setIf (may : s.checkIfAccess = .ok ()) (b : Bool) :
    s.Controls (s.setFlags { s.flags with ifl := b }) :=
  State.controls_setFlags rfl rfl (fun changed => absurd rfl changed) fun _ => State.checkIfAccess_eq_ok_prot may

theorem execCli_controls (h : exec .cli s = .next t) : s.Controls t := by
  have ⟨_, h⟩ := check_eq_ok.mp (outcome_eq_next.mp h)
  obtain ⟨may, rfl⟩ := check_ok_eq_ok.mp h
  exact (State.controls_setIf may _).framed (State.Touches.refl _).retire.toFrame

theorem execSti_controls (h : exec .sti s = .next t) : s.Controls t := by
  have ⟨_, h⟩ := check_eq_ok.mp (outcome_eq_next.mp h)
  obtain ⟨may, rfl⟩ := check_ok_eq_ok.mp h
  exact (State.controls_setIf may _).framed (State.Touches.refl _).retireWith.toFrame

/-- CLD and STD. -/
theorem State.onlyDf_controls {b : Bool} (h : outcome (s.onlyFlags { s.flags with df := b }) = .next t) : s.Controls t :=
  (State.controls_setFlags (by rfl) (by rfl) (absurd (by rfl)) (absurd (by rfl))).framed (State.onlyDf_frame h)

theorem execMovSregRm16_controls {rm : RM} {r : SegReg} (h : exec (.movSregRm16 rm r) s = .next t) : s.Controls t :=
  (State.controls_setSeg ..).framed (execMovSregRm16_frame h).1

theorem State.popSeg_controls {r : SegReg} (h : outcome (s.popSeg r) = .next t) : s.Controls t :=
  (State.controls_setSeg ..).framed (State.popSeg_frame h).1

theorem execPopRm_controls {rm : RM} (h : exec (.popRm rm) s = .next t) : s.Controls t := by
  cases rm with
  | reg r =>
    have ⟨_, h⟩ := check_eq_ok.mp (outcome_eq_next.mp h)
    exact (State.popInto_touches h).controls
  | mem m => exact (execPopRm_touches h).controls

theorem State.out_controls {port : Half} {w : Width} (h : outcome (s.out port w) = .next t) : s.Controls t := by
  obtain ⟨frame, -, event⟩ := State.out_frame h
  exact (State.controls_withOutput (.inr event)).framed frame

theorem outs_controls {stops : RepPrefix → State → Bool} {w : Width}
    (h : outcome (s.stringOp stops (outsOnce w)) = .next t) : s.Controls t := by
  obtain ⟨frame, -, events⟩ := outs_frame (cx := [.ecx]) (fun _ => List.mem_cons_self) h
  exact (State.controls_withOutput events).framed frame

theorem State.stringOp_controls {stops : RepPrefix → State → Bool} {once : State → M State}
    (body : ∀ {u}, once s = .ok u → s.Touches u rs bs) (h : outcome (s.stringOp stops once) = .next t) : s.Controls t :=
  (State.stringOp_touches (cx := [.ecx]) (fun _ => List.mem_cons_self) body h).controls

/-! ### Far returns (rules R402, R405, R406) -/

theorem State.retFarReal_cpl {imm : Nat} (h : s.retFarReal imm = .ok t) : t.cpl = s.cpl := by
  have ⟨_, h⟩ := check_eq_ok.mp h
  have ⟨_, h⟩ := (guard_eq_ok (by simp)).mp h
  cases h
  exact (State.Touches.refl (s.setSeg ..)).popped.jumpTo.system.cpl

theorem State.retFarSame_cpl {imm : Nat} (h : s.retFarSame imm = .ok t) : t.cpl = s.cpl := by
  obtain ⟨d, _, h⟩ := bind_eq_ok.mp h
  have ⟨_, h⟩ := check_eq_ok.mp h
  have ⟨_, h⟩ := (guard_eq_ok (by simp [bind_eq_ok])).mp h
  cases h
  exact (State.Touches.refl (s.setSeg ..)).popped.jumpTo.system.cpl

theorem State.retFarOuter_cpl {imm : Nat} (h : s.retFarOuter imm = .ok t) : t.cpl = rplOf s.returnSel := by
  have ⟨_, h⟩ := (guard_eq_ok (by simp [bind_eq_ok])).mp h
  obtain ⟨d, _, h⟩ := bind_eq_ok.mp h
  have ⟨_, h⟩ := check_eq_ok.mp h
  have ⟨_, h⟩ := check_eq_ok.mp h
  obtain ⟨e, he, h⟩ := bind_eq_ok.mp h
  have ⟨_, h⟩ := check_eq_ok.mp h
  have ⟨_, h⟩ := (guard_eq_ok (by simp [bind_eq_ok])).mp h
  obtain ⟨u, hu, h⟩ := bind_eq_ok.mp h
  cases h
  obtain ⟨g, rfl⟩ := State.dropSegs_segs hu
  exact (State.Touches.refl _).setReg.system.cpl

/-- A far return never goes to a more privileged level, and outside protected mode it stays at its level. -/
theorem State.retFar_cpl {imm : Nat} (h : outcome (s.retFar imm) = .next t) :
    s.cpl.toNat ≤ t.cpl.toNat ∧ (s.mode ≠ .prot → t.cpl = s.cpl) := by
  have ⟨_, h⟩ := check_eq_ok.mp (outcome_eq_next.mp h)
  split at h
  case h_1 prot =>
    have ⟨_, h⟩ := check_eq_ok.mp h
    have ⟨rises, h⟩ := (guard_eq_ok (by simp)).mp h
    refine ⟨?_, fun other => absurd prot other⟩
    split at h
    case isTrue => rw [State.retFarSame_cpl h]
    case isFalse => rw [State.retFarOuter_cpl h]; exact Nat.not_lt.mp rises
  case h_2 =>
    have same := State.retFarReal_cpl h
    exact ⟨same ▸ Nat.le_refl _, fun _ => same⟩

theorem State.retFar_controls {imm : Nat} (h : outcome (s.retFar imm) = .next t) : s.Controls t := by
  obtain ⟨rises, stays⟩ := State.retFar_cpl h
  exact (State.controls_withLevel t.segs rises stays).framed (State.retFar_frame h).1

end

open State in
/-- Every instruction that answers a next state. -/
theorem exec_controls {i : Instr} {s t : State} (h : exec i s = .next t) : s.Controls t := by
  cases i with
  | orRm8R8 | orRmvRv => exact (rmReg_touches orOp_flagsOnly h).controls
  | sbbRm8R8 | sbbRmvRv => exact (rmReg_touches sbbOp_flagsOnly h).controls
  | subRm8R8 | subRmvRv => exact (rmReg_touches subOp_flagsOnly h).controls
  | xorRm8R8 | xorRmvRv => exact (rmReg_touches xorOp_flagsOnly h).controls
  | orRm8Imm8 | orRmvImmv | orRmvImm8 => exact (rmImm_touches orOp_flagsOnly h).controls
  | sbbRm8Imm8 | sbbRmvImmv | sbbRmvImm8 => exact (rmImm_touches sbbOp_flagsOnly h).controls
  | subRm8Imm8 | subRmvImmv | subRmvImm8 => exact (rmImm_touches subOp_flagsOnly h).controls
  | xorRm8Imm8 | xorRmvImmv | xorRmvImm8 => exact (rmImm_touches xorOp_flagsOnly h).controls
  | orR8Rm8 | orRvRmv => exact (regRm_touches orOp_flagsOnly h).controls
  | sbbR8Rm8 | sbbRvRmv => exact (regRm_touches sbbOp_flagsOnly h).controls
  | subR8Rm8 | subRvRmv => exact (regRm_touches subOp_flagsOnly h).controls
  | xorR8Rm8 | xorRvRmv => exact (regRm_touches xorOp_flagsOnly h).controls
  | orAlImm8 | orAxImmv => exact (accImm_touches orOp_flagsOnly h).controls
  | sbbAlImm8 | sbbAxImmv => exact (accImm_touches sbbOp_flagsOnly h).controls
  | subAlImm8 | subAxImmv => exact (accImm_touches subOp_flagsOnly h).controls
  | xorAlImm8 | xorAxImmv => exact (accImm_touches xorOp_flagsOnly h).controls
  | testRm8R8 | testRmvRv | testRm8Imm8 | testRmvImmv => exact (testRM_touches h).controls
  | testAlImm8 | testAxImmv => exact (testAcc_touches h).controls
  | notRm8 | notRmv => exact (rmUnary_touches notOp_flagsOnly h).controls
  | negRm8 | negRmv => exact (rmUnary_touches negOp_flagsOnly h).controls
  | mulRm8 => exact (mulRM_touches s.setProduct_touches_b8 h).controls
  | mulRmv => exact (mulRM_touches (s.setProduct_touches_ofSize _) h).controls
  | rolRm8 | rolRmv | rorRm8 | rorRmv | rclRm8 | rclRmv | rcrRm8 | rcrRmv | shlRm8 | shlRmv | shrRm8 | shrRmv | sarRm8
  | sarRmv => exact (shiftRM_touches h).controls
  | shldImm8 | shldCl | shrdImm8 | shrdCl => exact (doubleShift_touches h).controls
  | movRm8R8 | movRmvRv | movRm8Imm8 | movRmvImmv => exact (movToRM_touches h).controls
  | movR8Rm8 | movRvRmv | movsx8 | movsx16 | movzx8 | movzx16 => exact (movFromRM_touches h).controls
  | movReg8Imm8 | movRegvImmv => exact (movRegImm_touches h).controls
  | movAlMoffs | movAxMoffs => exact (movAccMoffs_touches h).controls
  | movMoffsAl | movMoffsAx => exact (movMoffsAcc_touches h).controls
  | movRm16Sreg => exact (execMovRm16Sreg_touches h).controls
  | movSregRm16 => exact execMovSregRm16_controls h
  | movR32Cr | movR32Dr => exact (movFromSpecial_touches h).controls
  | movR32Tr => exact (execMovR32Tr_touches h).controls
  | movTrR32 => exact (execMovTrR32_touches h).controls
  | movCrR32 => exact execMovCrR32_controls h
  | movDrR32 => exact execMovDrR32_controls h
  | xchgRm8R8 | xchgRmvRv => exact (xchgRM_touches h).controls
  | xchgAxReg => exact (execXchgAxReg_touches h).controls
  | xlat => exact (execXlat_touches h).controls
  | seto | setno | setb | setnb | setz | setnz | setbe | setnbe | sets | setns | setp | setnp | setl | setnl | setle
  | setnle => exact (setCond_touches h).controls
  | sldt | str => exact (storeSel_touches h).controls
  | smsw => exact (execSmsw_touches h).controls
  | sgdt | sidt => exact (storeTable_touches h).controls
  | verr | verw => exact (verify_touches h).controls
  | pushReg | pushImmv | pushImm8 => exact (pushValue_touches h).controls
  | pushRm => exact (execPushRm_touches h).controls
  | pushEs | pushCs | pushSs | pushDs | pushFs | pushGs => exact (pushSeg_touches h).controls
  | pusha => exact (execPusha_touches h).controls
  | pushf => exact (execPushf_touches h).controls
  | popReg => exact (execPopReg_touches h).controls
  | popRm => exact execPopRm_controls h
  | popEs | popSs | popDs | popFs | popGs => exact popSeg_controls h
  | popa => exact (execPopa_touches h).controls
  | popf => exact execPopf_controls h
  | retNear | retNearImm => exact (retNear_touches h).controls
  | retFar | retFarImm => exact retFar_controls h
  | jo | jno | jb | jnb | jz | jnz | jbe | jnbe | js | jns | jp | jnp | jl | jnl | jle | jnle | jcxz | jmpRel | jmpRel8 =>
    exact (branch_touches h).controls
  | loop | loope | loopne => exact (loopBranch_frame h).1.controls
  | outImm8Al | outImm8Ax | outDxAl | outDxAx => exact out_controls h
  | outs8 | outsv => exact outs_controls h
  | movs8 | movsv => exact stringOp_controls movsOnce_touches h
  | stos8 | stosv => exact stringOp_controls stosOnce_touches h
  | scas8 | scasv => exact stringOp_controls scasOnce_touches h
  | nop => exact (execNop_touches h).controls
  | wait => exact (execWait_touches h).controls
  | sahf => exact (onlyFlags_touches (s.flags.sahf_keepsControl _) h).controls
  | clc | stc | cmc => exact (onlyFlags_touches (s.flags.cf_keepsControl _) h).controls
  | cld | std => exact onlyDf_controls h
  | cli => exact execCli_controls h
  | sti => exact execSti_controls h
  | segEs | segCs | segSs | segDs | segFs | segGs => exact (latchSeg_touches h).controls
  | opsize | addrsize | lock | repne | rep => exact (latchUnless_touches h).controls
  | arpl | lldt | ltr | lar | lsl => exact absurd h noMeaningProtected_ne_next
  | _ => exact absurd h noMeaning_ne_next

/-! ### From the instruction to the step (rules R112, R113, R620) -/

/-- An instruction that the cell places before another one is one of rule R113. -/
def Entry.prefixOnly : Entry → Bool
  | .pfx i => isPrefix i
  | _ => true

theorem oneByteMap_prefixOnly : oneByteMap.all (·.all Entry.prefixOnly) = true := rfl

/-- What holds of every entry of a table, and of a reserved encoding, holds of the cell that a byte selects. -/
theorem mapCell_of_all {p : Entry → Bool} {table : List (List Entry)} (h : table.all (·.all p) = true)
    (reserved : p (.form .reserved) = true) (b : Byte) : p (mapCell table b) = true := by
  simp only [List.all_eq_true] at h
  rw [mapCell, List.getD_eq_getElem?_getD, List.getD_eq_getElem?_getD]
  cases row : table[b.toNat / 16]? with
  | none => exact reserved
  | some es =>
    cases cell : es[b.toNat % 16]? with
    | none => simpa [cell] using reserved
    | some e => simpa [cell] using h es (List.mem_of_getElem? row) e (List.mem_of_getElem? cell)

theorem decodePrefix_isPrefix {b : Byte} {p : Instr} (h : decodePrefix b = some p) : isPrefix p = true := by
  have only := mapCell_of_all oneByteMap_prefixOnly rfl b
  unfold decodePrefix at h
  split at h
  case h_1 cell =>
    cases h
    rwa [cell] at only
  case h_2 => cases h

section
variable {s t : State}

theorem State.latchSeg_ctx {r : SegReg} (h : outcome (s.latchSeg r) = .next t) : ∃ c, t = { s with ctx := c } := by
  have h := outcome_eq_next.mp h
  unfold State.latchSeg at h
  split at h <;> cases h
  exact ⟨_, rfl⟩

theorem State.latchUnless_ctx {read : Bool} {c : Ctx}
    (h : outcome (if read then refuse .duplicatePrefix else .ok (s.latch c)) = .next t) :
    ∃ c, t = { s with ctx := c } := by
  have ⟨_, h⟩ := (guard_eq_ok (by simp)).mp (outcome_eq_next.mp h)
  cases h
  exact ⟨_, rfl⟩

/-- A byte before the instruction changes the context only (rule R114). -/
theorem exec_prefix {p : Instr} (known : isPrefix p = true) (h : exec p s = .next t) : ∃ c, t = { s with ctx := c } := by
  cases p with
  | segEs | segCs | segSs | segDs | segFs | segGs => exact State.latchSeg_ctx h
  | opsize | addrsize | lock | repne | rep => exact State.latchUnless_ctx h
  | _ => cases known

/-- Bytes that end in a next state end with one instruction, which runs in the state before them but for the context. -/
theorem exec_of_runBytes {bs : List Byte} {stop : Stop} (h : runBytes exec bs stop s = .next t) :
    ∃ i c, exec i { s with ctx := c } = .next t := by
  induction bs generalizing s with
  | nil => cases outcome_eq_next.mp h
  | cons b bs ih =>
    unfold runBytes at h
    split at h
    case h_1 =>
      unfold runDecoded at h
      split at h
      case h_1 => exact ⟨_, _, h⟩
      case h_2 => cases outcome_eq_next.mp h
      case h_3 => cases h
    case h_2 known =>
      split at h
      case h_1 latched =>
        obtain ⟨c, rfl⟩ := exec_prefix (decodePrefix_isPrefix known) latched
        exact ih (s := { s with ctx := c }) h
      case h_2 other => exact absurd h (other t)

/-- A step that answers a next state ran one instruction, from a state that may be stepped from. -/
theorem exec_of_step (h : step s = .next t) : s.unsteppable = none ∧ ∃ i c, exec i { s with ctx := c } = .next t := by
  unfold step runInstruction at h
  split at h
  case h_1 => cases h
  case h_2 may => exact ⟨may, exec_of_runBytes (s := s.fresh) h⟩

theorem State.noPaging_noBreakpoints_of_steppable (h : s.unsteppable = none) :
    s.pg = false ∧ s.dr7.extractLsb' 0 8 = 0 := by
  unfold State.unsteppable at h
  split_ifs at h with _ paging breakpoints
  exact ⟨Bool.eq_false_of_not_eq_true paging, Decidable.of_not_not breakpoints⟩

end

/-- Settles O57: a step is one instruction from the state but for its context, which is no control state. -/
theorem stepKeepsControlState : Obligations.StepKeepsControlState := by
  intro s t run
  obtain ⟨may, i, c, executed⟩ := exec_of_step run
  obtain ⟨noPaging, noBreakpoints⟩ := State.noPaging_noBreakpoints_of_steppable may
  have h := exec_controls executed
  exact ⟨h.cfg, h.gdtr, h.idtr, h.ldtr, h.taskr, h.busyPin, h.errorPin, h.intrPending, h.nmiPending, h.vm, h.rf,
    h.protLevel, h.realLevel, h.staysProt, h.paging noPaging, h.breakpoints noBreakpoints, h.cr3,
    h.special, h.iopl, h.ifl, h.ioOut⟩

end Sys2Proof.Machine
end
